-- ==== Sys2Proof/Word.lean ====
section
/-!
DEFINITION. Word.lean: the two widths of the machine (00_scope R14) and their names. Every helper that takes a word
apart or puts one together stands in Machine/Ops.lean, Machine/Operands.lean or Decode.lean.
-/

namespace Sys2Proof

/-- A byte: 8 bits, unsigned (R14). -/
abbrev Byte := BitVec 8

/-- A word: 16 bits, unsigned (R14). Addresses and PC are words. -/
abbrev Word := BitVec 16

/-- An address of the picture-side space: 14 bits (R61). -/
abbrev PicAddr := BitVec 14

end Sys2Proof
end

