-- ==== Sys2Proof/Syntax.lean ====
section
/-!
DEFINITION. Syntax.lean: the instructions, one constructor for each of the 256 rows of spec/opcode_table.json: the 35
entries of the descriptor table (30_encoding R106) with their operands, and the 221 unimplemented opcode bytes (R107).
An operand is a byte (`v` the immediate data, `z` a page-zero address, `r` a branch displacement) or, in the absolute
modes, the 16-bit address `addr` (R101).
-/

namespace Sys2Proof

/-- The instructions. The name of an admitted one is its mnemonic and its addressing mode (R106); `unimpXX` is the
unimplemented opcode byte 0xXX (R107, R230). -/
inductive Instr where
  /-- `LDA #v`, opcode 0xA9, mode IMM (R172). -/
  | ldaImm (v : Byte)
  /-- `LDA z`, opcode 0xA5, mode ZP0 (R173). -/
  | ldaZp0 (z : Byte)
  /-- `LDA z,X`, opcode 0xB5, mode ZPX (R174). -/
  | ldaZpx (z : Byte)
  /-- `LDA addr`, opcode 0xAD, mode ABS (R175). -/
  | ldaAbs (addr : Word)
  /-- `LDA addr,X`, opcode 0xBD, mode ABX (R176). -/
  | ldaAbx (addr : Word)
  /-- `LDA addr,Y`, opcode 0xB9, mode ABY (R177). -/
  | ldaAby (addr : Word)
  /-- `LDA (z,X)`, opcode 0xA1, mode IZX (R178). -/
  | ldaIzx (z : Byte)
  /-- `LDA (z),Y`, opcode 0xB1, mode IZY (R179). -/
  | ldaIzy (z : Byte)
  /-- `LDX #v`, opcode 0xA2, mode IMM (R181). -/
  | ldxImm (v : Byte)
  /-- `LDX z`, opcode 0xA6, mode ZP0 (R182). -/
  | ldxZp0 (z : Byte)
  /-- `LDX z,Y`, opcode 0xB6, mode ZPY (R183). -/
  | ldxZpy (z : Byte)
  /-- `LDX addr`, opcode 0xAE, mode ABS (R184). -/
  | ldxAbs (addr : Word)
  /-- `LDX addr,Y`, opcode 0xBE, mode ABY (R185). -/
  | ldxAby (addr : Word)
  /-- `LDY #v`, opcode 0xA0, mode IMM (R187). -/
  | ldyImm (v : Byte)
  /-- `LDY z`, opcode 0xA4, mode ZP0 (R188). -/
  | ldyZp0 (z : Byte)
  /-- `LDY z,X`, opcode 0xB4, mode ZPX (R189). -/
  | ldyZpx (z : Byte)
  /-- `LDY addr`, opcode 0xAC, mode ABS (R190). -/
  | ldyAbs (addr : Word)
  /-- `LDY addr,X`, opcode 0xBC, mode ABX (R191). -/
  | ldyAbx (addr : Word)
  /-- `STA z`, opcode 0x85, mode ZP0 (R202). -/
  | staZp0 (z : Byte)
  /-- `STA z,X`, opcode 0x95, mode ZPX (R203). -/
  | staZpx (z : Byte)
  /-- `STA addr`, opcode 0x8D, mode ABS (R204). -/
  | staAbs (addr : Word)
  /-- `STA addr,X`, opcode 0x9D, mode ABX (R205). -/
  | staAbx (addr : Word)
  /-- `STA addr,Y`, opcode 0x99, mode ABY (R206). -/
  | staAby (addr : Word)
  /-- `STA (z,X)`, opcode 0x81, mode IZX (R207). -/
  | staIzx (z : Byte)
  /-- `STA (z),Y`, opcode 0x91, mode IZY (R208). -/
  | staIzy (z : Byte)
  /-- `STX z`, opcode 0x86, mode ZP0 (R210). -/
  | stxZp0 (z : Byte)
  /-- `STX z,Y`, opcode 0x96, mode ZPY (R211). -/
  | stxZpy (z : Byte)
  /-- `STX addr`, opcode 0x8E, mode ABS (R212). -/
  | stxAbs (addr : Word)
  /-- `STY z`, opcode 0x84, mode ZP0 (R214). -/
  | styZp0 (z : Byte)
  /-- `STY z,X`, opcode 0x94, mode ZPX (R215). -/
  | styZpx (z : Byte)
  /-- `STY addr`, opcode 0x8C, mode ABS (R216). -/
  | styAbs (addr : Word)
  /-- `BCC *+2+r`, opcode 0x90, mode REL (R221). -/
  | bcc (r : Byte)
  /-- `BCS *+2+r`, opcode 0xB0, mode REL (R222). -/
  | bcs (r : Byte)
  /-- `BNE *+2+r`, opcode 0xD0, mode REL (R223). -/
  | bne (r : Byte)
  /-- `BEQ *+2+r`, opcode 0xF0, mode REL (R224). -/
  | beq (r : Byte)
  | unimp00 | unimp01 | unimp02 | unimp03 | unimp04 | unimp05 | unimp06 | unimp07
  | unimp08 | unimp09 | unimp0A | unimp0B | unimp0C | unimp0D | unimp0E | unimp0F
  | unimp10 | unimp11 | unimp12 | unimp13 | unimp14 | unimp15 | unimp16 | unimp17
  | unimp18 | unimp19 | unimp1A | unimp1B | unimp1C | unimp1D | unimp1E | unimp1F
  | unimp20 | unimp21 | unimp22 | unimp23 | unimp24 | unimp25 | unimp26 | unimp27
  | unimp28 | unimp29 | unimp2A | unimp2B | unimp2C | unimp2D | unimp2E | unimp2F
  | unimp30 | unimp31 | unimp32 | unimp33 | unimp34 | unimp35 | unimp36 | unimp37
  | unimp38 | unimp39 | unimp3A | unimp3B | unimp3C | unimp3D | unimp3E | unimp3F
  | unimp40 | unimp41 | unimp42 | unimp43 | unimp44 | unimp45 | unimp46 | unimp47
  | unimp48 | unimp49 | unimp4A | unimp4B | unimp4C | unimp4D | unimp4E | unimp4F
  | unimp50 | unimp51 | unimp52 | unimp53 | unimp54 | unimp55 | unimp56 | unimp57
  | unimp58 | unimp59 | unimp5A | unimp5B | unimp5C | unimp5D | unimp5E | unimp5F
  | unimp60 | unimp61 | unimp62 | unimp63 | unimp64 | unimp65 | unimp66 | unimp67
  | unimp68 | unimp69 | unimp6A | unimp6B | unimp6C | unimp6D | unimp6E | unimp6F
  | unimp70 | unimp71 | unimp72 | unimp73 | unimp74 | unimp75 | unimp76 | unimp77
  | unimp78 | unimp79 | unimp7A | unimp7B | unimp7C | unimp7D | unimp7E | unimp7F
  | unimp80 | unimp82 | unimp83 | unimp87 | unimp88 | unimp89 | unimp8A | unimp8B
  | unimp8F | unimp92 | unimp93 | unimp97 | unimp98 | unimp9A | unimp9B | unimp9C
  | unimp9E | unimp9F | unimpA3 | unimpA7 | unimpA8 | unimpAA | unimpAB | unimpAF
  | unimpB2 | unimpB3 | unimpB7 | unimpB8 | unimpBA | unimpBB | unimpBF | unimpC0
  | unimpC1 | unimpC2 | unimpC3 | unimpC4 | unimpC5 | unimpC6 | unimpC7 | unimpC8
  | unimpC9 | unimpCA | unimpCB | unimpCC | unimpCD | unimpCE | unimpCF | unimpD1
  | unimpD2 | unimpD3 | unimpD4 | unimpD5 | unimpD6 | unimpD7 | unimpD8 | unimpD9
  | unimpDA | unimpDB | unimpDC | unimpDD | unimpDE | unimpDF | unimpE0 | unimpE1
  | unimpE2 | unimpE3 | unimpE4 | unimpE5 | unimpE6 | unimpE7 | unimpE8 | unimpE9
  | unimpEA | unimpEB | unimpEC | unimpED | unimpEE | unimpEF | unimpF1 | unimpF2
  | unimpF3 | unimpF4 | unimpF5 | unimpF6 | unimpF7 | unimpF8 | unimpF9 | unimpFA
  | unimpFB | unimpFC | unimpFD | unimpFE | unimpFF
  deriving DecidableEq, Repr

end Sys2Proof
end

