-- ==== Sys2Proof/Decode.lean ====
section
/-!
DEFINITION. Decode.lean: the descriptor table of 30_encoding (R103-R108), the decoder and the encoder. The opcode byte
is an opaque key (R101): the table is one list of 256 entries in the order of the opcode bytes.
-/

namespace Sys2Proof

/-- The twelve addressing-mode enumerants (R105). -/
inductive Mode where
  | imp | imm | zp0 | zpx | zpy | rel | abs | abx | aby | ind | izx | izy
  deriving DecidableEq, Repr

/-- How many operand bytes follow the opcode byte in each mode (R101, R105). -/
def Mode.operandBytes : Mode → Nat
  | .imp => 0
  | .imm | .zp0 | .zpx | .zpy | .rel | .izx | .izy => 1
  | .abs | .abx | .aby | .ind => 2

/-- The length of an instruction of this mode, opcode byte included (R105). -/
def Mode.length (m : Mode) : Nat := m.operandBytes + 1

/-- The diagnostic tag of a mode (R105, D34). -/
def Mode.tag : Mode → String
  | .imp => "IMP" | .imm => "IMM" | .zp0 => "ZP0" | .zpx => "ZPX" | .zpy => "ZPY" | .rel => "REL"
  | .abs => "ABS" | .abx => "ABX" | .aby => "ABY" | .ind => "IND" | .izx => "IZX" | .izy => "IZY"

/-- The registers a load or store names (R170, R200). -/
inductive Reg where
  | a | x | y
  deriving DecidableEq, Repr

/-- The condition of a branch: which flag it reads and the value it wants (R221-R224). -/
inductive Cond where
  | carryClear | carrySet | notEqual | equal
  deriving DecidableEq, Repr

/-- The semantic handlers of the descriptor table (R104, R132); `none` is the sentinel's (R107). -/
inductive Handler where
  | load (r : Reg)
  | store (r : Reg)
  | branch (c : Cond)
  | none
  deriving DecidableEq, Repr

/-- One descriptor (R104). -/
structure Descriptor where
  mnemonic : String
  tag : String
  mode : Mode
  base : Byte
  handler : Handler
  deriving DecidableEq, Repr

/-- The sentinel descriptor of every unimplemented opcode (R107, D8). -/
def unimplemented : Descriptor := ⟨"UNIMP", "???", .imp, 1#8, .none⟩

/-- The descriptor of an instruction (R106; the sentinel for the 221 others, R107). -/
def Instr.descriptor : Instr → Descriptor
  | .ldaImm _ => ⟨"LDA", "IMM", .imm, 2#8, .load .a⟩
  | .ldaZp0 _ => ⟨"LDA", "ZP0", .zp0, 3#8, .load .a⟩
  | .ldaZpx _ => ⟨"LDA", "ZPX", .zpx, 4#8, .load .a⟩
  | .ldaAbs _ => ⟨"LDA", "ABS", .abs, 4#8, .load .a⟩
  | .ldaAbx _ => ⟨"LDA", "ABX", .abx, 4#8, .load .a⟩
  | .ldaAby _ => ⟨"LDA", "ABY", .aby, 4#8, .load .a⟩
  | .ldaIzx _ => ⟨"LDA", "IZX", .izx, 6#8, .load .a⟩
  | .ldaIzy _ => ⟨"LDA", "IZY", .izy, 5#8, .load .a⟩
  | .ldxImm _ => ⟨"LDX", "IMM", .imm, 2#8, .load .x⟩
  | .ldxZp0 _ => ⟨"LDX", "ZP0", .zp0, 3#8, .load .x⟩
  | .ldxZpy _ => ⟨"LDX", "ZPY", .zpy, 4#8, .load .x⟩
  | .ldxAbs _ => ⟨"LDX", "ABS", .abs, 4#8, .load .x⟩
  | .ldxAby _ => ⟨"LDX", "ABY", .aby, 4#8, .load .x⟩
  | .ldyImm _ => ⟨"LDY", "IMM", .imm, 2#8, .load .y⟩
  | .ldyZp0 _ => ⟨"LDY", "ZP0", .zp0, 3#8, .load .y⟩
  | .ldyZpx _ => ⟨"LDY", "ZPX", .zpx, 4#8, .load .y⟩
  | .ldyAbs _ => ⟨"LDY", "ABS", .abs, 4#8, .load .y⟩
  | .ldyAbx _ => ⟨"LDY", "ABX", .abx, 4#8, .load .y⟩
  | .staZp0 _ => ⟨"STA", "ZP0", .zp0, 3#8, .store .a⟩
  | .staZpx _ => ⟨"STA", "ZPX", .zpx, 4#8, .store .a⟩
  | .staAbs _ => ⟨"STA", "ABS", .abs, 4#8, .store .a⟩
  | .staAbx _ => ⟨"STA", "ABX", .abx, 5#8, .store .a⟩
  | .staAby _ => ⟨"STA", "ABY", .aby, 5#8, .store .a⟩
  | .staIzx _ => ⟨"STA", "IZX", .izx, 6#8, .store .a⟩
  | .staIzy _ => ⟨"STA", "IZY", .izy, 6#8, .store .a⟩
  | .stxZp0 _ => ⟨"STX", "ZP0", .zp0, 3#8, .store .x⟩
  | .stxZpy _ => ⟨"STX", "ZPY", .zpy, 4#8, .store .x⟩
  | .stxAbs _ => ⟨"STX", "ABS", .abs, 4#8, .store .x⟩
  | .styZp0 _ => ⟨"STY", "ZP0", .zp0, 3#8, .store .y⟩
  | .styZpx _ => ⟨"STY", "ZPX", .zpx, 4#8, .store .y⟩
  | .styAbs _ => ⟨"STY", "ABS", .abs, 4#8, .store .y⟩
  | .bcc _ => ⟨"BCC", "REL", .rel, 2#8, .branch .carryClear⟩
  | .bcs _ => ⟨"BCS", "REL", .rel, 2#8, .branch .carrySet⟩
  | .bne _ => ⟨"BNE", "REL", .rel, 2#8, .branch .notEqual⟩
  | .beq _ => ⟨"BEQ", "REL", .rel, 2#8, .branch .equal⟩
  | .unimp00 | .unimp01 | .unimp02 | .unimp03 | .unimp04 | .unimp05 | .unimp06 | .unimp07
  | .unimp08 | .unimp09 | .unimp0A | .unimp0B | .unimp0C | .unimp0D | .unimp0E | .unimp0F
  | .unimp10 | .unimp11 | .unimp12 | .unimp13 | .unimp14 | .unimp15 | .unimp16 | .unimp17
  | .unimp18 | .unimp19 | .unimp1A | .unimp1B | .unimp1C | .unimp1D | .unimp1E | .unimp1F
  | .unimp20 | .unimp21 | .unimp22 | .unimp23 | .unimp24 | .unimp25 | .unimp26 | .unimp27
  | .unimp28 | .unimp29 | .unimp2A | .unimp2B | .unimp2C | .unimp2D | .unimp2E | .unimp2F
  | .unimp30 | .unimp31 | .unimp32 | .unimp33 | .unimp34 | .unimp35 | .unimp36 | .unimp37
  | .unimp38 | .unimp39 | .unimp3A | .unimp3B | .unimp3C | .unimp3D | .unimp3E | .unimp3F
  | .unimp40 | .unimp41 | .unimp42 | .unimp43 | .unimp44 | .unimp45 | .unimp46 | .unimp47
  | .unimp48 | .unimp49 | .unimp4A | .unimp4B | .unimp4C | .unimp4D | .unimp4E | .unimp4F
  | .unimp50 | .unimp51 | .unimp52 | .unimp53 | .unimp54 | .unimp55 | .unimp56 | .unimp57
  | .unimp58 | .unimp59 | .unimp5A | .unimp5B | .unimp5C | .unimp5D | .unimp5E | .unimp5F
  | .unimp60 | .unimp61 | .unimp62 | .unimp63 | .unimp64 | .unimp65 | .unimp66 | .unimp67
  | .unimp68 | .unimp69 | .unimp6A | .unimp6B | .unimp6C | .unimp6D | .unimp6E | .unimp6F
  | .unimp70 | .unimp71 | .unimp72 | .unimp73 | .unimp74 | .unimp75 | .unimp76 | .unimp77
  | .unimp78 | .unimp79 | .unimp7A | .unimp7B | .unimp7C | .unimp7D | .unimp7E | .unimp7F
  | .unimp80 | .unimp82 | .unimp83 | .unimp87 | .unimp88 | .unimp89 | .unimp8A | .unimp8B
  | .unimp8F | .unimp92 | .unimp93 | .unimp97 | .unimp98 | .unimp9A | .unimp9B | .unimp9C
  | .unimp9E | .unimp9F | .unimpA3 | .unimpA7 | .unimpA8 | .unimpAA | .unimpAB | .unimpAF
  | .unimpB2 | .unimpB3 | .unimpB7 | .unimpB8 | .unimpBA | .unimpBB | .unimpBF | .unimpC0
  | .unimpC1 | .unimpC2 | .unimpC3 | .unimpC4 | .unimpC5 | .unimpC6 | .unimpC7 | .unimpC8
  | .unimpC9 | .unimpCA | .unimpCB | .unimpCC | .unimpCD | .unimpCE | .unimpCF | .unimpD1
  | .unimpD2 | .unimpD3 | .unimpD4 | .unimpD5 | .unimpD6 | .unimpD7 | .unimpD8 | .unimpD9
  | .unimpDA | .unimpDB | .unimpDC | .unimpDD | .unimpDE | .unimpDF | .unimpE0 | .unimpE1
  | .unimpE2 | .unimpE3 | .unimpE4 | .unimpE5 | .unimpE6 | .unimpE7 | .unimpE8 | .unimpE9
  | .unimpEA | .unimpEB | .unimpEC | .unimpED | .unimpEE | .unimpEF | .unimpF1 | .unimpF2
  | .unimpF3 | .unimpF4 | .unimpF5 | .unimpF6 | .unimpF7 | .unimpF8 | .unimpF9 | .unimpFA
  | .unimpFB | .unimpFC | .unimpFD | .unimpFE | .unimpFF => unimplemented

/-- The low byte of a word: the byte at the lower address (R63). -/
def lowByte (w : Word) : Byte := w.setWidth 8

/-- The high byte of a word (R63). -/
def highByte (w : Word) : Byte := (w >>> 8).setWidth 8

/-- The word `hi:lo` (R14): low byte first in memory (R63, R102). -/
def wordOf (hi lo : Byte) : Word := (hi.setWidth 16 <<< 8) ||| lo.setWidth 16

/-! One row of the opcode matrix for each high nibble, in the order of the low nibble: from the operand bytes that
follow the opcode byte to the instruction (R106, R107). A one-byte operand is the first of the two. -/

/-- Opcodes 0x00 to 0x0F. -/
def opcodeRow0 : List (Byte → Byte → Instr) :=
  [fun _ _ => .unimp00, fun _ _ => .unimp01, fun _ _ => .unimp02, fun _ _ => .unimp03,
   fun _ _ => .unimp04, fun _ _ => .unimp05, fun _ _ => .unimp06, fun _ _ => .unimp07,
   fun _ _ => .unimp08, fun _ _ => .unimp09, fun _ _ => .unimp0A, fun _ _ => .unimp0B,
   fun _ _ => .unimp0C, fun _ _ => .unimp0D, fun _ _ => .unimp0E, fun _ _ => .unimp0F]

/-- Opcodes 0x10 to 0x1F. -/
def opcodeRow1 : List (Byte → Byte → Instr) :=
  [fun _ _ => .unimp10, fun _ _ => .unimp11, fun _ _ => .unimp12, fun _ _ => .unimp13,
   fun _ _ => .unimp14, fun _ _ => .unimp15, fun _ _ => .unimp16, fun _ _ => .unimp17,
   fun _ _ => .unimp18, fun _ _ => .unimp19, fun _ _ => .unimp1A, fun _ _ => .unimp1B,
   fun _ _ => .unimp1C, fun _ _ => .unimp1D, fun _ _ => .unimp1E, fun _ _ => .unimp1F]

/-- Opcodes 0x20 to 0x2F. -/
def opcodeRow2 : List (Byte → Byte → Instr) :=
  [fun _ _ => .unimp20, fun _ _ => .unimp21, fun _ _ => .unimp22, fun _ _ => .unimp23,
   fun _ _ => .unimp24, fun _ _ => .unimp25, fun _ _ => .unimp26, fun _ _ => .unimp27,
   fun _ _ => .unimp28, fun _ _ => .unimp29, fun _ _ => .unimp2A, fun _ _ => .unimp2B,
   fun _ _ => .unimp2C, fun _ _ => .unimp2D, fun _ _ => .unimp2E, fun _ _ => .unimp2F]

/-- Opcodes 0x30 to 0x3F. -/
def opcodeRow3 : List (Byte → Byte → Instr) :=
  [fun _ _ => .unimp30, fun _ _ => .unimp31, fun _ _ => .unimp32, fun _ _ => .unimp33,
   fun _ _ => .unimp34, fun _ _ => .unimp35, fun _ _ => .unimp36, fun _ _ => .unimp37,
   fun _ _ => .unimp38, fun _ _ => .unimp39, fun _ _ => .unimp3A, fun _ _ => .unimp3B,
   fun _ _ => .unimp3C, fun _ _ => .unimp3D, fun _ _ => .unimp3E, fun _ _ => .unimp3F]

/-- Opcodes 0x40 to 0x4F. -/
def opcodeRow4 : List (Byte → Byte → Instr) :=
  [fun _ _ => .unimp40, fun _ _ => .unimp41, fun _ _ => .unimp42, fun _ _ => .unimp43,
   fun _ _ => .unimp44, fun _ _ => .unimp45, fun _ _ => .unimp46, fun _ _ => .unimp47,
   fun _ _ => .unimp48, fun _ _ => .unimp49, fun _ _ => .unimp4A, fun _ _ => .unimp4B,
   fun _ _ => .unimp4C, fun _ _ => .unimp4D, fun _ _ => .unimp4E, fun _ _ => .unimp4F]

/-- Opcodes 0x50 to 0x5F. -/
def opcodeRow5 : List (Byte → Byte → Instr) :=
  [fun _ _ => .unimp50, fun _ _ => .unimp51, fun _ _ => .unimp52, fun _ _ => .unimp53,
   fun _ _ => .unimp54, fun _ _ => .unimp55, fun _ _ => .unimp56, fun _ _ => .unimp57,
   fun _ _ => .unimp58, fun _ _ => .unimp59, fun _ _ => .unimp5A, fun _ _ => .unimp5B,
   fun _ _ => .unimp5C, fun _ _ => .unimp5D, fun _ _ => .unimp5E, fun _ _ => .unimp5F]

/-- Opcodes 0x60 to 0x6F. -/
def opcodeRow6 : List (Byte → Byte → Instr) :=
  [fun _ _ => .unimp60, fun _ _ => .unimp61, fun _ _ => .unimp62, fun _ _ => .unimp63,
   fun _ _ => .unimp64, fun _ _ => .unimp65, fun _ _ => .unimp66, fun _ _ => .unimp67,
   fun _ _ => .unimp68, fun _ _ => .unimp69, fun _ _ => .unimp6A, fun _ _ => .unimp6B,
   fun _ _ => .unimp6C, fun _ _ => .unimp6D, fun _ _ => .unimp6E, fun _ _ => .unimp6F]

/-- Opcodes 0x70 to 0x7F. -/
def opcodeRow7 : List (Byte → Byte → Instr) :=
  [fun _ _ => .unimp70, fun _ _ => .unimp71, fun _ _ => .unimp72, fun _ _ => .unimp73,
   fun _ _ => .unimp74, fun _ _ => .unimp75, fun _ _ => .unimp76, fun _ _ => .unimp77,
   fun _ _ => .unimp78, fun _ _ => .unimp79, fun _ _ => .unimp7A, fun _ _ => .unimp7B,
   fun _ _ => .unimp7C, fun _ _ => .unimp7D, fun _ _ => .unimp7E, fun _ _ => .unimp7F]

/-- Opcodes 0x80 to 0x8F. -/
def opcodeRow8 : List (Byte → Byte → Instr) :=
  [fun _ _ => .unimp80, fun z _ => .staIzx z, fun _ _ => .unimp82, fun _ _ => .unimp83,
   fun z _ => .styZp0 z, fun z _ => .staZp0 z, fun z _ => .stxZp0 z, fun _ _ => .unimp87,
   fun _ _ => .unimp88, fun _ _ => .unimp89, fun _ _ => .unimp8A, fun _ _ => .unimp8B,
   fun lo hi => .styAbs (wordOf hi lo), fun lo hi => .staAbs (wordOf hi lo), fun lo hi => .stxAbs (wordOf hi lo), fun _ _ => .unimp8F]

/-- Opcodes 0x90 to 0x9F. -/
def opcodeRow9 : List (Byte → Byte → Instr) :=
  [fun r _ => .bcc r, fun z _ => .staIzy z, fun _ _ => .unimp92, fun _ _ => .unimp93,
   fun z _ => .styZpx z, fun z _ => .staZpx z, fun z _ => .stxZpy z, fun _ _ => .unimp97,
   fun _ _ => .unimp98, fun lo hi => .staAby (wordOf hi lo), fun _ _ => .unimp9A, fun _ _ => .unimp9B,
   fun _ _ => .unimp9C, fun lo hi => .staAbx (wordOf hi lo), fun _ _ => .unimp9E, fun _ _ => .unimp9F]

/-- Opcodes 0xA0 to 0xAF. -/
def opcodeRowA : List (Byte → Byte → Instr) :=
  [fun v _ => .ldyImm v, fun z _ => .ldaIzx z, fun v _ => .ldxImm v, fun _ _ => .unimpA3,
   fun z _ => .ldyZp0 z, fun z _ => .ldaZp0 z, fun z _ => .ldxZp0 z, fun _ _ => .unimpA7,
   fun _ _ => .unimpA8, fun v _ => .ldaImm v, fun _ _ => .unimpAA, fun _ _ => .unimpAB,
   fun lo hi => .ldyAbs (wordOf hi lo), fun lo hi => .ldaAbs (wordOf hi lo), fun lo hi => .ldxAbs (wordOf hi lo), fun _ _ => .unimpAF]

/-- Opcodes 0xB0 to 0xBF. -/
def opcodeRowB : List (Byte → Byte → Instr) :=
  [fun r _ => .bcs r, fun z _ => .ldaIzy z, fun _ _ => .unimpB2, fun _ _ => .unimpB3,
   fun z _ => .ldyZpx z, fun z _ => .ldaZpx z, fun z _ => .ldxZpy z, fun _ _ => .unimpB7,
   fun _ _ => .unimpB8, fun lo hi => .ldaAby (wordOf hi lo), fun _ _ => .unimpBA, fun _ _ => .unimpBB,
   fun lo hi => .ldyAbx (wordOf hi lo), fun lo hi => .ldaAbx (wordOf hi lo), fun lo hi => .ldxAby (wordOf hi lo), fun _ _ => .unimpBF]

/-- Opcodes 0xC0 to 0xCF. -/
def opcodeRowC : List (Byte → Byte → Instr) :=
  [fun _ _ => .unimpC0, fun _ _ => .unimpC1, fun _ _ => .unimpC2, fun _ _ => .unimpC3,
   fun _ _ => .unimpC4, fun _ _ => .unimpC5, fun _ _ => .unimpC6, fun _ _ => .unimpC7,
   fun _ _ => .unimpC8, fun _ _ => .unimpC9, fun _ _ => .unimpCA, fun _ _ => .unimpCB,
   fun _ _ => .unimpCC, fun _ _ => .unimpCD, fun _ _ => .unimpCE, fun _ _ => .unimpCF]

/-- Opcodes 0xD0 to 0xDF. -/
def opcodeRowD : List (Byte → Byte → Instr) :=
  [fun r _ => .bne r, fun _ _ => .unimpD1, fun _ _ => .unimpD2, fun _ _ => .unimpD3,
   fun _ _ => .unimpD4, fun _ _ => .unimpD5, fun _ _ => .unimpD6, fun _ _ => .unimpD7,
   fun _ _ => .unimpD8, fun _ _ => .unimpD9, fun _ _ => .unimpDA, fun _ _ => .unimpDB,
   fun _ _ => .unimpDC, fun _ _ => .unimpDD, fun _ _ => .unimpDE, fun _ _ => .unimpDF]

/-- Opcodes 0xE0 to 0xEF. -/
def opcodeRowE : List (Byte → Byte → Instr) :=
  [fun _ _ => .unimpE0, fun _ _ => .unimpE1, fun _ _ => .unimpE2, fun _ _ => .unimpE3,
   fun _ _ => .unimpE4, fun _ _ => .unimpE5, fun _ _ => .unimpE6, fun _ _ => .unimpE7,
   fun _ _ => .unimpE8, fun _ _ => .unimpE9, fun _ _ => .unimpEA, fun _ _ => .unimpEB,
   fun _ _ => .unimpEC, fun _ _ => .unimpED, fun _ _ => .unimpEE, fun _ _ => .unimpEF]

/-- Opcodes 0xF0 to 0xFF. -/
def opcodeRowF : List (Byte → Byte → Instr) :=
  [fun r _ => .beq r, fun _ _ => .unimpF1, fun _ _ => .unimpF2, fun _ _ => .unimpF3,
   fun _ _ => .unimpF4, fun _ _ => .unimpF5, fun _ _ => .unimpF6, fun _ _ => .unimpF7,
   fun _ _ => .unimpF8, fun _ _ => .unimpF9, fun _ _ => .unimpFA, fun _ _ => .unimpFB,
   fun _ _ => .unimpFC, fun _ _ => .unimpFD, fun _ _ => .unimpFE, fun _ _ => .unimpFF]

/-- The opcode matrix: entry n is opcode byte n, "exactly one entry per supported opcode" (R103). -/
def opcodeTable : List (Byte → Byte → Instr) :=
  opcodeRow0 ++ (opcodeRow1 ++ (opcodeRow2 ++ (opcodeRow3 ++ (opcodeRow4 ++ (opcodeRow5 ++ (opcodeRow6 ++ (opcodeRow7 ++
  (opcodeRow8 ++ (opcodeRow9 ++ (opcodeRowA ++ (opcodeRowB ++ (opcodeRowC ++ (opcodeRowD ++ (opcodeRowE ++
  opcodeRowF))))))))))))))

/-- The instruction with opcode byte `op` and operand bytes `b1`, `b2` (R103). The table has an entry for every byte,
so the default is never taken. -/
def instrOf (op b1 b2 : Byte) : Instr := (opcodeTable.getD op.toNat fun _ _ => .unimp00) b1 b2

/-- `DESC`, the total function from opcode bytes to descriptors (R103). -/
def DESC (op : Byte) : Descriptor := (instrOf op 0#8 0#8).descriptor

/-- How many operand bytes follow opcode byte `op`: a function of the opcode byte alone (R100, R108). -/
def operandCount (op : Byte) : Nat := (DESC op).mode.operandBytes

/-- Why a byte list holds no instruction at its head. The machine never meets one: its fetch reads as many bytes as
the opcode asks for. -/
inductive DecodeError where
  /-- There is no opcode byte. -/
  | noBytes
  /-- The operand bytes the opcode asks for are not all there (R100). -/
  | truncated (op : Byte)
  deriving DecidableEq, Repr

/-- The decoder: the instruction at the head of a byte list, with the rest of the list. Total on any bytes; every
opcode byte has an entry, so the only lists refused are those that end too early. -/
def decode : List Byte → Except DecodeError (Instr × List Byte)
  | [] => .error .noBytes
  | op :: rest =>
    match operandCount op, rest with
    | 0, rest => .ok (instrOf op 0#8 0#8, rest)
    | 1, b1 :: rest => .ok (instrOf op b1 0#8, rest)
    | 2, b1 :: b2 :: rest => .ok (instrOf op b1 b2, rest)
    | _, _ => .error (.truncated op)

/-- The encoder: the bytes of an instruction, opcode first, a 16-bit operand low byte first (R101, R102, R106). -/
def encode : Instr → List Byte
  | .ldaImm v => [0xA9#8, v]
  | .ldaZp0 z => [0xA5#8, z]
  | .ldaZpx z => [0xB5#8, z]
  | .ldaAbs addr => [0xAD#8, lowByte addr, highByte addr]
  | .ldaAbx addr => [0xBD#8, lowByte addr, highByte addr]
  | .ldaAby addr => [0xB9#8, lowByte addr, highByte addr]
  | .ldaIzx z => [0xA1#8, z]
  | .ldaIzy z => [0xB1#8, z]
  | .ldxImm v => [0xA2#8, v]
  | .ldxZp0 z => [0xA6#8, z]
  | .ldxZpy z => [0xB6#8, z]
  | .ldxAbs addr => [0xAE#8, lowByte addr, highByte addr]
  | .ldxAby addr => [0xBE#8, lowByte addr, highByte addr]
  | .ldyImm v => [0xA0#8, v]
  | .ldyZp0 z => [0xA4#8, z]
  | .ldyZpx z => [0xB4#8, z]
  | .ldyAbs addr => [0xAC#8, lowByte addr, highByte addr]
  | .ldyAbx addr => [0xBC#8, lowByte addr, highByte addr]
  | .staZp0 z => [0x85#8, z]
  | .staZpx z => [0x95#8, z]
  | .staAbs addr => [0x8D#8, lowByte addr, highByte addr]
  | .staAbx addr => [0x9D#8, lowByte addr, highByte addr]
  | .staAby addr => [0x99#8, lowByte addr, highByte addr]
  | .staIzx z => [0x81#8, z]
  | .staIzy z => [0x91#8, z]
  | .stxZp0 z => [0x86#8, z]
  | .stxZpy z => [0x96#8, z]
  | .stxAbs addr => [0x8E#8, lowByte addr, highByte addr]
  | .styZp0 z => [0x84#8, z]
  | .styZpx z => [0x94#8, z]
  | .styAbs addr => [0x8C#8, lowByte addr, highByte addr]
  | .bcc r => [0x90#8, r]
  | .bcs r => [0xB0#8, r]
  | .bne r => [0xD0#8, r]
  | .beq r => [0xF0#8, r]
  | .unimp00 => [0x00#8] | .unimp01 => [0x01#8] | .unimp02 => [0x02#8] | .unimp03 => [0x03#8]
  | .unimp04 => [0x04#8] | .unimp05 => [0x05#8] | .unimp06 => [0x06#8] | .unimp07 => [0x07#8]
  | .unimp08 => [0x08#8] | .unimp09 => [0x09#8] | .unimp0A => [0x0A#8] | .unimp0B => [0x0B#8]
  | .unimp0C => [0x0C#8] | .unimp0D => [0x0D#8] | .unimp0E => [0x0E#8] | .unimp0F => [0x0F#8]
  | .unimp10 => [0x10#8] | .unimp11 => [0x11#8] | .unimp12 => [0x12#8] | .unimp13 => [0x13#8]
  | .unimp14 => [0x14#8] | .unimp15 => [0x15#8] | .unimp16 => [0x16#8] | .unimp17 => [0x17#8]
  | .unimp18 => [0x18#8] | .unimp19 => [0x19#8] | .unimp1A => [0x1A#8] | .unimp1B => [0x1B#8]
  | .unimp1C => [0x1C#8] | .unimp1D => [0x1D#8] | .unimp1E => [0x1E#8] | .unimp1F => [0x1F#8]
  | .unimp20 => [0x20#8] | .unimp21 => [0x21#8] | .unimp22 => [0x22#8] | .unimp23 => [0x23#8]
  | .unimp24 => [0x24#8] | .unimp25 => [0x25#8] | .unimp26 => [0x26#8] | .unimp27 => [0x27#8]
  | .unimp28 => [0x28#8] | .unimp29 => [0x29#8] | .unimp2A => [0x2A#8] | .unimp2B => [0x2B#8]
  | .unimp2C => [0x2C#8] | .unimp2D => [0x2D#8] | .unimp2E => [0x2E#8] | .unimp2F => [0x2F#8]
  | .unimp30 => [0x30#8] | .unimp31 => [0x31#8] | .unimp32 => [0x32#8] | .unimp33 => [0x33#8]
  | .unimp34 => [0x34#8] | .unimp35 => [0x35#8] | .unimp36 => [0x36#8] | .unimp37 => [0x37#8]
  | .unimp38 => [0x38#8] | .unimp39 => [0x39#8] | .unimp3A => [0x3A#8] | .unimp3B => [0x3B#8]
  | .unimp3C => [0x3C#8] | .unimp3D => [0x3D#8] | .unimp3E => [0x3E#8] | .unimp3F => [0x3F#8]
  | .unimp40 => [0x40#8] | .unimp41 => [0x41#8] | .unimp42 => [0x42#8] | .unimp43 => [0x43#8]
  | .unimp44 => [0x44#8] | .unimp45 => [0x45#8] | .unimp46 => [0x46#8] | .unimp47 => [0x47#8]
  | .unimp48 => [0x48#8] | .unimp49 => [0x49#8] | .unimp4A => [0x4A#8] | .unimp4B => [0x4B#8]
  | .unimp4C => [0x4C#8] | .unimp4D => [0x4D#8] | .unimp4E => [0x4E#8] | .unimp4F => [0x4F#8]
  | .unimp50 => [0x50#8] | .unimp51 => [0x51#8] | .unimp52 => [0x52#8] | .unimp53 => [0x53#8]
  | .unimp54 => [0x54#8] | .unimp55 => [0x55#8] | .unimp56 => [0x56#8] | .unimp57 => [0x57#8]
  | .unimp58 => [0x58#8] | .unimp59 => [0x59#8] | .unimp5A => [0x5A#8] | .unimp5B => [0x5B#8]
  | .unimp5C => [0x5C#8] | .unimp5D => [0x5D#8] | .unimp5E => [0x5E#8] | .unimp5F => [0x5F#8]
  | .unimp60 => [0x60#8] | .unimp61 => [0x61#8] | .unimp62 => [0x62#8] | .unimp63 => [0x63#8]
  | .unimp64 => [0x64#8] | .unimp65 => [0x65#8] | .unimp66 => [0x66#8] | .unimp67 => [0x67#8]
  | .unimp68 => [0x68#8] | .unimp69 => [0x69#8] | .unimp6A => [0x6A#8] | .unimp6B => [0x6B#8]
  | .unimp6C => [0x6C#8] | .unimp6D => [0x6D#8] | .unimp6E => [0x6E#8] | .unimp6F => [0x6F#8]
  | .unimp70 => [0x70#8] | .unimp71 => [0x71#8] | .unimp72 => [0x72#8] | .unimp73 => [0x73#8]
  | .unimp74 => [0x74#8] | .unimp75 => [0x75#8] | .unimp76 => [0x76#8] | .unimp77 => [0x77#8]
  | .unimp78 => [0x78#8] | .unimp79 => [0x79#8] | .unimp7A => [0x7A#8] | .unimp7B => [0x7B#8]
  | .unimp7C => [0x7C#8] | .unimp7D => [0x7D#8] | .unimp7E => [0x7E#8] | .unimp7F => [0x7F#8]
  | .unimp80 => [0x80#8] | .unimp82 => [0x82#8] | .unimp83 => [0x83#8] | .unimp87 => [0x87#8]
  | .unimp88 => [0x88#8] | .unimp89 => [0x89#8] | .unimp8A => [0x8A#8] | .unimp8B => [0x8B#8]
  | .unimp8F => [0x8F#8] | .unimp92 => [0x92#8] | .unimp93 => [0x93#8] | .unimp97 => [0x97#8]
  | .unimp98 => [0x98#8] | .unimp9A => [0x9A#8] | .unimp9B => [0x9B#8] | .unimp9C => [0x9C#8]
  | .unimp9E => [0x9E#8] | .unimp9F => [0x9F#8] | .unimpA3 => [0xA3#8] | .unimpA7 => [0xA7#8]
  | .unimpA8 => [0xA8#8] | .unimpAA => [0xAA#8] | .unimpAB => [0xAB#8] | .unimpAF => [0xAF#8]
  | .unimpB2 => [0xB2#8] | .unimpB3 => [0xB3#8] | .unimpB7 => [0xB7#8] | .unimpB8 => [0xB8#8]
  | .unimpBA => [0xBA#8] | .unimpBB => [0xBB#8] | .unimpBF => [0xBF#8] | .unimpC0 => [0xC0#8]
  | .unimpC1 => [0xC1#8] | .unimpC2 => [0xC2#8] | .unimpC3 => [0xC3#8] | .unimpC4 => [0xC4#8]
  | .unimpC5 => [0xC5#8] | .unimpC6 => [0xC6#8] | .unimpC7 => [0xC7#8] | .unimpC8 => [0xC8#8]
  | .unimpC9 => [0xC9#8] | .unimpCA => [0xCA#8] | .unimpCB => [0xCB#8] | .unimpCC => [0xCC#8]
  | .unimpCD => [0xCD#8] | .unimpCE => [0xCE#8] | .unimpCF => [0xCF#8] | .unimpD1 => [0xD1#8]
  | .unimpD2 => [0xD2#8] | .unimpD3 => [0xD3#8] | .unimpD4 => [0xD4#8] | .unimpD5 => [0xD5#8]
  | .unimpD6 => [0xD6#8] | .unimpD7 => [0xD7#8] | .unimpD8 => [0xD8#8] | .unimpD9 => [0xD9#8]
  | .unimpDA => [0xDA#8] | .unimpDB => [0xDB#8] | .unimpDC => [0xDC#8] | .unimpDD => [0xDD#8]
  | .unimpDE => [0xDE#8] | .unimpDF => [0xDF#8] | .unimpE0 => [0xE0#8] | .unimpE1 => [0xE1#8]
  | .unimpE2 => [0xE2#8] | .unimpE3 => [0xE3#8] | .unimpE4 => [0xE4#8] | .unimpE5 => [0xE5#8]
  | .unimpE6 => [0xE6#8] | .unimpE7 => [0xE7#8] | .unimpE8 => [0xE8#8] | .unimpE9 => [0xE9#8]
  | .unimpEA => [0xEA#8] | .unimpEB => [0xEB#8] | .unimpEC => [0xEC#8] | .unimpED => [0xED#8]
  | .unimpEE => [0xEE#8] | .unimpEF => [0xEF#8] | .unimpF1 => [0xF1#8] | .unimpF2 => [0xF2#8]
  | .unimpF3 => [0xF3#8] | .unimpF4 => [0xF4#8] | .unimpF5 => [0xF5#8] | .unimpF6 => [0xF6#8]
  | .unimpF7 => [0xF7#8] | .unimpF8 => [0xF8#8] | .unimpF9 => [0xF9#8] | .unimpFA => [0xFA#8]
  | .unimpFB => [0xFB#8] | .unimpFC => [0xFC#8] | .unimpFD => [0xFD#8] | .unimpFE => [0xFE#8]
  | .unimpFF => [0xFF#8]

/-- The opcode byte of an instruction. -/
def Instr.opcode (i : Instr) : Byte := (encode i).headD 0#8

/-- The opcode bytes with no entry in the descriptor table (R107). -/
def isUnimplemented (op : Byte) : Bool := (DESC op).handler == .none

/-- The bytes, lowest address first, of an instruction whose bits are `w`, bit 0 the least significant bit of the first
byte. `nbits` is how many bits are given; every bit above is 0. Three bytes, the longest instruction (R100). -/
def tableBytes (nbits w : Nat) : List Byte :=
  let v := w % 2 ^ nbits
  [BitVec.ofNat 8 v, BitVec.ofNat 8 (v / 256), BitVec.ofNat 8 (v / 65536)]

/-- What the decoder reads from the instruction whose bits are `w`, numbered as spec/opcode_table.json numbers them.
None unless `nbits` is 8, 16 or 24. -/
def decodeTableWord (nbits w : Nat) : Option Instr :=
  if nbits = 8 ∨ nbits = 16 ∨ nbits = 24 then
    match decode (tableBytes nbits w) with
    | .ok (i, _) => some i
    | .error _ => none
  else none

end Sys2Proof
end

