-- ==== Sys2Proof/Config.lean ====
section
/-!
DEFINITION. Config.lean: what the spec leaves to the implementation (00_scope R7), and the boundary of the two
collaborators whose insides are out of scope (R5, R10). An `opaque` constant has no body: it is a free value, and
whatever is proved holds for every value of it.
-/

namespace Sys2Proof

/-- The four mirroring modes (R48, R281). `load` yields only the first two. -/
inductive Mirroring where
  | horizontal
  | vertical
  | singleScreenLow
  | singleScreenHigh
  deriving DecidableEq, Repr

/-- A call across the boundary of the picture collaborator other than its `clock()` (R10, R12): the bus's register
accesses and OAM writes, its reset, and the accesses it makes itself to the cartridge, with the answer it got. -/
inductive PictureCall where
  /-- `read_register(i)` (R70). -/
  | readRegister (i : BitVec 3)
  /-- `write_register(i, v)` (R70). -/
  | writeRegister (i : BitVec 3) (v : Byte)
  /-- `oam_data_write(v)` by the DMA controller (R247). -/
  | oamDataWrite (v : Byte)
  /-- `reset()` (R254). -/
  | reset
  /-- The picture unit called `ppu_read(a)`; `none` is "not claimed" (R290, R292). -/
  | ppuRead (a : PicAddr) (answer : Option Byte)
  /-- The picture unit called `ppu_write(a, v)` (R291, R292). -/
  | ppuWrite (a : PicAddr) (v : Byte) (claimed : Bool)
  /-- The picture unit called `mirror_mode()` (R293); `none` when there is no cartridge. -/
  | mirrorMode (answer : Option Mirroring)
  deriving DecidableEq, Repr

/-- The picture collaborator as the core sees it: how often it was clocked, and every other call, newest first, each
with the number of clocks it came after. Its own state is a function of this history. DESIGN CHOICE, log 3. -/
structure PictureUnit where
  ticks : Nat
  calls : List (Nat × PictureCall)
  deriving DecidableEq, Repr

/-- A call across the boundary of the sound collaborator other than its `clock()` (R10, R71). -/
inductive SoundCall where
  /-- `read_register(a)`, keyed by the full address (R71). -/
  | readRegister (a : Word)
  /-- `write_register(a, v)` (R71). -/
  | writeRegister (a : Word) (v : Byte)
  /-- `reset()` (R254). -/
  | reset
  deriving DecidableEq, Repr

/-- The sound collaborator, as `PictureUnit`. DESIGN CHOICE, log 3. -/
structure SoundUnit where
  ticks : Nat
  calls : List (Nat × SoundCall)
  deriving DecidableEq, Repr

/-- FREE VALUE (R74, D19; log 3): the byte the picture unit answers to `read_register(i)`, for the history of calls
before that read. -/
opaque Config.pictureByte : PictureUnit → BitVec 3 → Byte

/-- FREE VALUE (R74, D19; log 3): the byte the sound unit answers to `read_register(a)`. -/
opaque Config.soundByte : SoundUnit → Word → Byte

/-- FREE VALUE (`RAM_INIT`, R7, R40, D29; log 4): the byte of RAM cell `i` that nothing has written. -/
opaque Config.ramInit : Nat → Byte

/-- FREE VALUE (`CHR_RAM_INIT`, R7, R48, D28; log 5): the byte of CHR-RAM cell `i` that nothing has written. -/
opaque Config.chrRamInit : Nat → Byte

/-- `RESET_A` (R7, D4). DESIGN CHOICE 0x00, unsafe, log 6. -/
def Config.resetA : Byte := 0x00#8

/-- `RESET_X` (R7, D4). DESIGN CHOICE 0x00, unsafe, log 6. -/
def Config.resetX : Byte := 0x00#8

/-- `RESET_Y` (R7, D4). DESIGN CHOICE 0x00, unsafe, log 6. -/
def Config.resetY : Byte := 0x00#8

end Sys2Proof
end

