-- ==== Sys2Proof/Machine/State.lean ====
section
/-!
DEFINITION. Machine/State.lean: every piece of state the spec gives the three blocks (10_state R20-R49), the driver's
side of the machine, the outcomes, and the state after reset (R50). Plain data throughout.
-/

namespace Sys2Proof.Machine

/-- A byte array as data: cells listed by strictly rising cell number, and no listed cell may hold what an unlisted
cell of that array reads as. Machine/Memory.lean says the form and what an unlisted cell reads as. -/
abbrev Cells := List Host.Cell

/-- `dma_phase` (R47): which half of a transfer pair the next DMA step runs. -/
inductive DmaPhase where
  | read
  | write
  deriving DecidableEq, Repr

/-- The mapper variants (R282): one, "fixed bank, no switching", with no state of its own (R49). -/
inductive Mapper where
  | fixedBank
  deriving DecidableEq, Repr

/-- The cartridge state a successful `load` creates (R48, R49). `chr_is_ram` is computed from `chrCount`
(`Cartridge.chrIsRam`, log 12); the arrays' lengths are computed from the two counts. -/
structure Cartridge where
  prgCount : Byte
  chrCount : Byte
  mapperId : Byte
  mirroring : Mirroring
  mapper : Mapper
  /-- `PRG[i]`, for i below `prgCount * 16384`. -/
  prg : Cells
  /-- `CHR[i]`: CHR-ROM, or the CHR-RAM when `chrCount = 0`. -/
  chr : Cells
  deriving DecidableEq, Repr

/-- The byte sequence handed to `load` (R62, R270): `size` bytes, of which those not listed are 0x00 (log 9). -/
structure RomImage where
  size : Nat
  cells : Cells
  deriving DecidableEq, Repr

/-- The definite failure signals of `load` (R278, R279, R296). -/
inductive LoadFailure where
  | headerTooShort
  | badMagic
  | truncatedBody
  | unsupportedMapper (id : Byte)
  deriving DecidableEq, Repr

/-- What the last driver call returned to the driver. THE MODEL'S OWN, log 2. -/
inductive Reply where
  | none
  /-- `load` succeeded. -/
  | loaded
  /-- `load` failed (R279). -/
  | loadFailed (f : LoadFailure)
  /-- `bus.read` returned this byte (R341). -/
  | data (v : Byte)
  /-- `irq_state()` returned this (R285). -/
  | irqLine (b : Bool)
  deriving DecidableEq, Repr

/-- One call from outside the core, made between two clocks (R302, R341). THE MODEL'S OWN, log 1. -/
inductive EnvCall where
  /-- `bus.clock()` (R240). -/
  | clock
  /-- `bus.reset()` (R254, R330). -/
  | reset
  /-- `cartridge.load(bytes)` (R278). -/
  | load (image : RomImage)
  /-- `cartridge.reset()` (R294). -/
  | cartReset
  /-- `cpu.irq()` (R303). -/
  | irq
  /-- `cpu.nmi()` (R304). -/
  | nmi
  /-- `bus.read(a)` by the driver itself: outside the contract (R341, D43), log 11. -/
  | busRead (a : Word)
  /-- `bus.write(a, v)` by the driver itself: outside the contract (R257, R341, D43), log 11. -/
  | busWrite (a : Word) (v : Byte)
  /-- The picture collaborator's `ppu_read(a)` on the cartridge (R12, R290), log 8. -/
  | ppuRead (a : PicAddr)
  /-- The picture collaborator's `ppu_write(a, v)` on the cartridge (R12, R291), log 8. -/
  | ppuWrite (a : PicAddr) (v : Byte)
  /-- The picture collaborator's `mirror_mode()` (R12, R293), log 8. -/
  | mirrorMode
  /-- The mapper hook `scanline()` (R285), log 13. -/
  | scanline
  /-- The mapper hook `irq_state()` (R285), log 13. -/
  | irqState
  /-- The mapper hook `irq_clear()` (R285), log 13. -/
  | irqClear
  deriving DecidableEq, Repr

/-- The whole machine. Each field is named after the spec's name for it. -/
structure State where
  /-- `A` (R20). -/
  a : Byte
  /-- `X` (R21). -/
  x : Byte
  /-- `Y` (R22). -/
  y : Byte
  /-- `SP` (R23). -/
  sp : Byte
  /-- `PC` (R24). -/
  pc : Word
  /-- `P` (R25). -/
  p : Byte
  /-- `opcode` (R35). -/
  opcode : Byte
  /-- `cycles` (R36). -/
  cycles : Byte
  /-- `total_clocks` (R37). -/
  totalClocks : Nat
  /-- `branch_taken` (R38). -/
  branchTaken : Bool
  /-- `page_crossed` (R39). -/
  pageCrossed : Bool
  /-- `RAM` (R40), keyed by cell number 0 to 0x7FF. -/
  ram : Cells
  /-- `cart` (R41, R48): absent, or the cartridge. -/
  cart : Option Cartridge
  /-- `clock_count` (R42). -/
  clockCount : Nat
  /-- `dma_active` (R43). -/
  dmaActive : Bool
  /-- `dma_page` (R44). -/
  dmaPage : Byte
  /-- `dma_cursor` (R45). -/
  dmaCursor : Byte
  /-- `dma_staging` (R46). -/
  dmaStaging : Byte
  /-- `dma_phase` (R47). -/
  dmaPhase : DmaPhase
  /-- `PICTURE` (R7, R10), log 3. -/
  picture : PictureUnit
  /-- `SOUND` (R7, R10), log 3. -/
  sound : SoundUnit
  /-- The driver's next calls, oldest first; with none left the driver clocks the bus. THE MODEL'S OWN, log 1. -/
  pending : List EnvCall
  /-- What the last driver call returned. THE MODEL'S OWN, log 2. -/
  reply : Reply
  /-- The mark of 93 U20: the driver accessed the bus itself. THE MODEL'S OWN, log 11. -/
  outOfContract : Bool
  deriving DecidableEq, Repr

/-- The reasons the machine stops: none. The hardware raises no exception and has no failure outcome (R140, R258,
R300), so there is no constructor, nobody raises one, and every run goes on (safe: nothing is hidden by a stop;
log 10). -/
inductive Fault : Type
  deriving DecidableEq, Repr

/-- The reasons a step is refused. -/
inductive Refusal where
  /-- Raised by `exec` for an instruction whose meaning is not written yet, under its mnemonic. No arm raises it:
  every instruction has its meaning (safe: it could only stop a run). -/
  | notModelled (mnemonic : String)
  deriving DecidableEq, Repr

/-- What a step answers. -/
abbrev Outcome := Host.Outcome State Fault Refusal

/-- The machine right after `bus.reset()` with no cartridge loaded and nothing written to RAM (R50, R75, R331; log 4,
6, 7). PC is the reset vector, which reads 0x0000 while no cartridge answers. The two collaborators' histories hold
the `reset()` calls that `bus.reset()` made. -/
def State.reset : State where
  a := Config.resetA
  x := Config.resetX
  y := Config.resetY
  sp := 0xFD#8
  pc := 0x0000#16
  p := 0x20#8
  opcode := 0x00#8
  cycles := 8#8
  totalClocks := 0
  branchTaken := false
  pageCrossed := false
  ram := []
  cart := none
  clockCount := 0
  dmaActive := false
  dmaPage := 0x00#8
  dmaCursor := 0x00#8
  dmaStaging := 0x00#8
  dmaPhase := .read
  picture := ⟨0, [(0, .reset)]⟩
  sound := ⟨0, [(0, .reset)]⟩
  pending := []
  reply := .none
  outOfContract := false

end Sys2Proof.Machine
end

