-- ==== Sys2Proof/Machine/Memory.lean ====
section
/-!
DEFINITION. Machine/Memory.lean: byte arrays as canonical lists of cells. The one place that says what an unlisted cell
reads as, which cells may stay unlisted, and how an array is read and written. Machine/Ops.lean builds the bus on it.
-/

namespace Sys2Proof.Machine

/-- The arrays of the machine (R40, R48) and the ROM image (R62). -/
inductive Region where
  /-- System RAM. -/
  | ram
  /-- CHR-RAM. -/
  | chrRam
  /-- PRG, CHR-ROM and the bytes handed to `load`: constant bytes that are all given. -/
  | rom
  deriving DecidableEq, Repr

/-- WHAT AN UNLISTED CELL READS AS. Where nothing has been written, RAM and CHR-RAM hold bytes the spec leaves
unconstrained (D28, D29): a free value for each cell, log 4, 5. In an array whose bytes are all given, the bytes left
unlisted are those that are 0x00, log 9. -/
def unlistedByte : Region → Nat → Byte
  | .ram, i => Config.ramInit i
  | .chrRam, i => Config.chrRamInit i
  | .rom, _ => 0x00#8

/-- May a cell that holds `v` stay unlisted? Only where the byte of an unlisted cell is known: a byte written to RAM
is never known to equal the free value, so a written cell is always listed (log 4). -/
def unlistable : Region → Byte → Bool
  | .rom, v => v == 0x00#8
  | _, _ => false

/-- The listed byte of a cell. -/
def cellsFind (i : Nat) : Cells → Option Byte
  | [] => none
  | c :: rest => if c.1 = i then some c.2 else cellsFind i rest

/-- List cell `i` with byte `v`, in its place by cell number. -/
def cellsInsert (i : Nat) (v : Byte) : Cells → Cells
  | [] => [(i, v)]
  | c :: rest =>
    if i < c.1 then (i, v) :: c :: rest
    else if i = c.1 then (i, v) :: rest
    else c :: cellsInsert i v rest

/-- Unlist cell `i`. -/
def cellsErase (i : Nat) : Cells → Cells
  | [] => []
  | c :: rest => if c.1 = i then rest else c :: cellsErase i rest

/-- The byte of cell `i`. -/
def cellsRead (r : Region) (i : Nat) (m : Cells) : Byte := (cellsFind i m).getD (unlistedByte r i)

/-- Write `v` to cell `i`, keeping the canonical form. -/
def cellsWrite (r : Region) (i : Nat) (v : Byte) (m : Cells) : Cells :=
  if unlistable r v then cellsErase i m else cellsInsert i v m

/-- The cells `lo` to `lo + n - 1`, renumbered from 0: the array copied out of an image (R278, R280). -/
def cellsSlice (lo n : Nat) : Cells → Cells
  | [] => []
  | c :: rest => if lo ≤ c.1 ∧ c.1 < lo + n then (c.1 - lo, c.2) :: cellsSlice lo n rest else cellsSlice lo n rest

/-- The cell numbers rise strictly and all lie at or above `lo`. -/
def cellsRising (lo : Nat) : Cells → Bool
  | [] => true
  | c :: rest => decide (lo ≤ c.1) && cellsRising (c.1 + 1) rest

/-- THE CANONICAL FORM of an array of `n` cells: the cell numbers rise strictly and are below `n`, and no listed cell
could be left unlisted. -/
def cellsWf (r : Region) (n : Nat) (m : Cells) : Bool :=
  cellsRising 0 m && m.all fun c => decide (c.1 < n) && !unlistable r c.2

/-- The number of RAM cells (R6, R40). -/
def ramSize : Nat := 0x800

/-- The length of PRG in bytes (R273). -/
def prgLength (c : Cartridge) : Nat := c.prgCount.toNat * 16384

/-- `chr_is_ram` (R48): true iff `chr_count = 0`. Log 12. -/
def chrIsRam (c : Cartridge) : Bool := c.chrCount == 0#8

/-- The region CHR is in. -/
def chrRegion (c : Cartridge) : Region := if chrIsRam c then .chrRam else .rom

/-- The length of CHR in bytes: `chr_count * 8192`, or 8192 of CHR-RAM (R48, R274). -/
def chrLength (c : Cartridge) : Nat := if chrIsRam c then 8192 else c.chrCount.toNat * 8192

/-- The cartridge's arrays are in canonical form and within their lengths (R48). -/
def cartWf (c : Cartridge) : Bool :=
  cellsWf .rom (prgLength c) c.prg && cellsWf (chrRegion c) (chrLength c) c.chr

/-- A byte sequence is in canonical form. -/
def imageWf (im : RomImage) : Bool := cellsWf .rom im.size im.cells

end Sys2Proof.Machine
end

