-- ==== Sys2Proof/Machine/Cartridge.lean ====
section
/-!
DEFINITION. Machine/Cartridge.lean: the cartridge_mapper block (47_cartridge_mapper): the fixed-bank mapper's four
translate-or-decline operations, its hooks, the cartridge's forwarding, and `load`. `none` is "not claimed".
-/

namespace Sys2Proof.Machine

/-- `cart.cpu_read(a)`, forwarded to the mapper (R283): 0x8000-0xFFFF reads PRG modulo its length unless PRG is empty;
every other address is declined (R286, R287, R295). -/
def cartridgeCpuRead (c : Cartridge) (a : Word) : Option Byte :=
  match c.mapper with
  | .fixedBank =>
    if 0x8000#16 ≤ a ∧ prgLength c ≠ 0 then
      some (cellsRead .rom ((a &&& 0x7FFF#16).toNat % prgLength c) c.prg)
    else none

/-- `cart.cpu_write(a, v)`: is the write claimed? One in 0x8000-0xFFFF is, and changes nothing (R287, R288, C5). -/
def cartridgeCpuWrite (c : Cartridge) (a : Word) (_v : Byte) : Bool :=
  match c.mapper with
  | .fixedBank => decide (0x8000#16 ≤ a)

/-- `cart.ppu_read(a)`: 0x0000-0x1FFF reads CHR, the rest is declined (R290, R292). -/
def cartridgePpuRead (c : Cartridge) (a : PicAddr) : Option Byte :=
  match c.mapper with
  | .fixedBank => if a ≤ 0x1FFF#14 then some (cellsRead (chrRegion c) a.toNat c.chr) else none

/-- `cart.ppu_write(a, v)`: 0x0000-0x1FFF is claimed, and stored if CHR is RAM; the rest is declined (R291, R292).
The cartridge after it, and whether it was claimed. -/
def cartridgePpuWrite (c : Cartridge) (a : PicAddr) (v : Byte) : Cartridge × Bool :=
  match c.mapper with
  | .fixedBank =>
    if a ≤ 0x1FFF#14 then
      (if chrIsRam c then { c with chr := cellsWrite .chrRam a.toNat v c.chr } else c, true)
    else (c, false)

/-- `cart.mirror_mode()` (R281, R293). -/
def cartridgeMirrorMode (c : Cartridge) : Mirroring :=
  match c.mapper with
  | .fixedBank => c.mirroring

/-- `cartridge.reset()`: forwarded to the mapper, which has no state to reset (R49, R293, R294). -/
def cartridgeReset (c : Cartridge) : Cartridge :=
  match c.mapper with
  | .fixedBank => c

/-- The hook `scanline()`: the default, nothing (R285). -/
def cartridgeScanline (c : Cartridge) : Cartridge :=
  match c.mapper with
  | .fixedBank => c

/-- The hook `irq_state()`: the default, false (R285). -/
def cartridgeIrqState (c : Cartridge) : Bool :=
  match c.mapper with
  | .fixedBank => false

/-- The hook `irq_clear()`: the default, nothing (R285). -/
def cartridgeIrqClear (c : Cartridge) : Cartridge :=
  match c.mapper with
  | .fixedBank => c

/-- Byte `i` of the byte sequence handed to `load`. -/
def imageByte (im : RomImage) (i : Nat) : Byte := cellsRead .rom i im.cells

/-- The four magic bytes match the signature (R272, D21). -/
def magicOk (im : RomImage) : Bool :=
  imageByte im 0 == 0x4E#8 && imageByte im 1 == 0x45#8 && imageByte im 2 == 0x53#8 && imageByte im 3 == 0x1A#8

/-- The mapper id: high nibble of `flags7`, high nibble of `flags6` (R275, R276, D22). -/
def imageMapperId (im : RomImage) : Byte := (imageByte im 7 &&& 0xF0#8) ||| (imageByte im 6 >>> 4)

/-- The mirroring bit, bit 0 of `flags6` (R275, R281, D22). -/
def imageMirroring (im : RomImage) : Mirroring := if (imageByte im 6).getLsbD 0 then .vertical else .horizontal

/-- The number of bytes the header asks for (R278). -/
def imageNeed (im : RomImage) : Nat := 16 + (imageByte im 4).toNat * 16384 + (imageByte im 5).toNat * 8192

/-- The cartridge a successful load makes of the image: PRG from offset 16, CHR-ROM behind it, or a CHR-RAM in which
nothing is written (R278, R280). -/
def imageCartridge (im : RomImage) : Cartridge where
  prgCount := imageByte im 4
  chrCount := imageByte im 5
  mapperId := imageMapperId im
  mirroring := imageMirroring im
  mapper := .fixedBank
  prg := cellsSlice 16 ((imageByte im 4).toNat * 16384) im.cells
  chr := cellsSlice (16 + (imageByte im 4).toNat * 16384) ((imageByte im 5).toNat * 8192) im.cells

/-- `cartridge.load(bytes)`: the four checks in the spec's order, then the cartridge (R278, R279, R296). -/
def loadImage (im : RomImage) : Except LoadFailure Cartridge :=
  if im.size < 16 then .error .headerTooShort
  else if !magicOk im then .error .badMagic
  else if im.size < imageNeed im then .error .truncatedBody
  else if imageMapperId im ≠ 0#8 then .error (.unsupportedMapper (imageMapperId im))
  else .ok (imageCartridge im)

end Sys2Proof.Machine
end

