-- ==== Sys2Proof/Machine/Flags.lean ====
section
/-!
DEFINITION. Machine/Flags.lean: the status byte P (10_state R25-R34): the flags by name, and every flag computation of
the spec: the load flags (R170) and the status of interrupt entry (R305).
-/

namespace Sys2Proof.Machine

/-- The eight flags in the order of the source (R25). -/
inductive Flag where
  | carry | zero | interruptDisable | decimal | breakSignal | unused | overflow | negative
  deriving DecidableEq, Repr

/-- The bit number of a flag (R25, D1). -/
def flagBit : Flag → Nat
  | .carry => 0
  | .zero => 1
  | .interruptDisable => 2
  | .decimal => 3
  | .breakSignal => 4
  | .unused => 5
  | .overflow => 6
  | .negative => 7

/-- The value of a flag in a status byte. -/
def getFlag (f : Flag) (p : Byte) : Bool := p.getLsbD (flagBit f)

/-- The status byte with one flag written. -/
def setFlag (f : Flag) (b : Bool) (p : Byte) : Byte :=
  if b then p ||| (1#8 <<< flagBit f) else p &&& ~~~(1#8 <<< flagBit f)

/-- The flags of a load of `v`: Z iff the byte is 0, N iff bit 7 is set, the others kept (R170). -/
def loadFlags (v p : Byte) : Byte :=
  setFlag .negative (v.getLsbD 7) (setFlag .zero (v == 0x00#8) p)

/-- The status byte interrupt entry pushes, and leaves in the register but for I: B cleared, U set (R30, R31, R305,
D30). -/
def entryStatus (p : Byte) : Byte := setFlag .unused true (setFlag .breakSignal false p)

end Sys2Proof.Machine
end

