-- ==== Sys2Proof/Machine/Ops.lean ====
section
/-!
DEFINITION. Machine/Ops.lean: the named operations over registers and the bus: register writes, the bus decode of
20_memory (`MemRead` R67, `MemWrite` R68), the stack, interrupt entry as ONE operation (60_exceptions R305; there is no
return from it, R309), and the two resets (R254, R331).
-/

namespace Sys2Proof.Machine

/-! ## Registers -/

/-- The register a load or store names (R170, R200). -/
def getReg (r : Reg) (s : State) : Byte :=
  match r with
  | .a => s.a
  | .x => s.x
  | .y => s.y

/-- Write A, X or Y. -/
def setReg (r : Reg) (v : Byte) (s : State) : State :=
  match r with
  | .a => { s with a := v }
  | .x => { s with x := v }
  | .y => { s with y := v }

/-- Write PC. -/
def setPc (w : Word) (s : State) : State := { s with pc := w }

/-- Write SP. -/
def setSp (v : Byte) (s : State) : State := { s with sp := v }

/-- Write the status byte. -/
def setP (v : Byte) (s : State) : State := { s with p := v }

/-- Write the remaining-cycles counter (R36). -/
def setCycles (n : Byte) (s : State) : State := { s with cycles := n }

/-- Write the page-crossed flag (R39). -/
def setPageCrossed (b : Bool) (s : State) : State := { s with pageCrossed := b }

/-- The start of a fetch tick, for an instruction of `len` bytes with opcode byte `op`: the transient flags cleared,
`opcode` written, PC on the byte after the instruction (R38, R39, R130, R131). -/
def startInstr (op : Byte) (len : Word) (s : State) : State :=
  { s with branchTaken := false, pageCrossed := false, opcode := op, pc := s.pc + len }

/-- A taken branch: the new PC, and the two transient flags (R220). -/
def takeBranch (target : Word) (crossed : Bool) (s : State) : State :=
  { s with branchTaken := true, pageCrossed := crossed, pc := target }

/-! ## The collaborators (R10) -/

/-- A call on the picture unit other than its clock. -/
def pictureCall (k : PictureCall) (s : State) : State :=
  { s with picture := { s.picture with calls := (s.picture.ticks, k) :: s.picture.calls } }

/-- A call on the sound unit other than its clock. -/
def soundCall (k : SoundCall) (s : State) : State :=
  { s with sound := { s.sound with calls := (s.sound.ticks, k) :: s.sound.calls } }

/-- `PICTURE.clock()`. -/
def pictureClock (s : State) : State := { s with picture := { s.picture with ticks := s.picture.ticks + 1 } }

/-- `SOUND.clock()`. -/
def soundClock (s : State) : State := { s with sound := { s.sound with ticks := s.sound.ticks + 1 } }

/-! ## The bus -/

/-- The address falls in the sound-register window: 0x4000-0x4013 or 0x4015 (R71, C2). -/
def inSoundWindow (a : Word) : Bool := (decide (0x4000#16 ≤ a) && decide (a ≤ 0x4013#16)) || a == 0x4015#16

/-- The RAM cell an address of the RAM window names: `a & 0x07FF` (R69). -/
def ramCell (a : Word) : Nat := (a &&& 0x07FF#16).toNat

/-- Write a RAM cell. -/
def writeRam (i : Nat) (v : Byte) (s : State) : State := { s with ram := cellsWrite .ram i v s.ram }

/-- Arm a DMA transfer: the write to 0x4014 (R72, D15, D16). -/
def armDma (v : Byte) (s : State) : State := { s with dmaPage := v, dmaActive := true, dmaPhase := .read }

/-- The cartridge's answer to a CPU-side read; `none` is "not claimed", as with no cartridge (R41, D32). -/
def cartCpuRead (a : Word) (s : State) : Option Byte := s.cart.bind fun c => cartridgeCpuRead c a

/-- Does the cartridge claim a CPU-side write? No cartridge claims nothing (R41, D32). -/
def cartCpuWrite (a : Word) (v : Byte) (s : State) : Bool :=
  match s.cart with
  | some c => cartridgeCpuWrite c a v
  | none => false

/-- `MemRead(addr, 1)`: the bus read (R67). The byte, and the state after the access: only a collaborator read
changes anything (R74), and what it answers is a free value (log 3). -/
def memRead (a : Word) (s : State) : Byte × State :=
  match cartCpuRead a s with
  | some d => (d, s)
  | none =>
    if a ≤ 0x1FFF#16 then (cellsRead .ram (ramCell a) s.ram, s)
    else if a ≤ 0x3FFF#16 then
      (Config.pictureByte s.picture (a.setWidth 3), pictureCall (.readRegister (a.setWidth 3)) s)
    else if inSoundWindow a then (Config.soundByte s.sound a, soundCall (.readRegister a) s)
    else (0x00#8, s)

/-- `MemWrite(addr, 1, v)`: the bus write (R68). -/
def memWrite (a : Word) (v : Byte) (s : State) : State :=
  if cartCpuWrite a v s then s
  else if a ≤ 0x1FFF#16 then writeRam (ramCell a) v s
  else if a ≤ 0x3FFF#16 then pictureCall (.writeRegister (a.setWidth 3) v) s
  else if inSoundWindow a then soundCall (.writeRegister a v) s
  else if a = 0x4014#16 then armDma v s
  else s

/-- A word from two bus reads, the low byte's first (R63, R75, D13). -/
def readWord (aLo aHi : Word) (s : State) : Word × State :=
  (wordOf (memRead aHi (memRead aLo s).2).1 (memRead aLo s).1, (memRead aHi (memRead aLo s).2).2)

/-- The word at a vector, with the state after the two reads (R75, R311). -/
def readVector (vec : Word) (s : State) : Word × State := readWord vec (vec + 1#16) s

/-! ## The stack and interrupt entry -/

/-- The stack address: page 0x01, offset SP (R23, D2). -/
def stackAddr (sp : Byte) : Word := 0x0100#16 + sp.setWidth 16

/-- Push a byte: write at the stack address, then decrement SP modulo 2^8 (R23). -/
def push (v : Byte) (s : State) : State := setSp (s.sp - 1#8) (memWrite (stackAddr s.sp) v s)

/-- TAKING AN INTERRUPT, common to `irq()` and `nmi()` (R305): PC and then the status byte pushed, B cleared and U set
before the push, I set after it, PC from the vector, `cycles` the latency. Nothing returns from it: the machine has no
instruction that pulls, writes SP or clears I (R309). -/
def interruptEntry (vec : Word) (latency : Byte) (s : State) : State :=
  let s := push (lowByte s.pc) (push (highByte s.pc) s)
  let s := setP (entryStatus s.p) s
  let s := push s.p s
  let s := setP (setFlag .interruptDisable true s.p) s
  setCycles latency (setPc (readVector vec s).1 (readVector vec s).2)

/-- `cpu.irq()`: nothing at all while I is set, else entry through 0xFFFE with latency 7 (R303). -/
def cpuIrq (s : State) : State :=
  if getFlag .interruptDisable s.p then s else interruptEntry 0xFFFE#16 7#8 s

/-- `cpu.nmi()`: entry through 0xFFFA with latency 8, whatever I is (R304). -/
def cpuNmi (s : State) : State := interruptEntry 0xFFFA#16 8#8 s

/-! ## Reset -/

/-- The registers `cpu.reset()` writes, all but PC (R331, D4, D5). -/
def resetRegisters (s : State) : State :=
  { s with a := Config.resetA, x := Config.resetX, y := Config.resetY, sp := 0xFD#8, p := 0x20#8,
           opcode := 0x00#8,
           branchTaken := false, pageCrossed := false, cycles := 8#8, totalClocks := 0 }

/-- `cpu.reset()` (R331): the registers, then PC from the vector at 0xFFFC (R332). -/
def cpuReset (s : State) : State :=
  setPc (readVector 0xFFFC#16 (resetRegisters s)).1 (readVector 0xFFFC#16 (resetRegisters s)).2

/-- The bus's own part of a reset: the clock counter zeroed and every DMA field cleared (R254, D16). -/
def resetBusFields (s : State) : State :=
  { s with clockCount := 0, dmaActive := false, dmaPage := 0x00#8, dmaCursor := 0x00#8,
           dmaStaging := 0x00#8,
           dmaPhase := .read }

/-- `bus.reset()` (R254, R330): the bus's fields, the CPU, the picture unit, the sound unit, in that order. RAM and
the cartridge keep their contents. -/
def busReset (s : State) : State :=
  soundCall .reset (pictureCall .reset (cpuReset (resetBusFields s)))

/-! ## The outcome of a step -/

/-- What follows a meaning that answers a next state. -/
def onNext (f : State → State) : Outcome → Outcome
  | .next s => .next (f s)
  | .fault r => .fault r
  | .refused r => .refused r

end Sys2Proof.Machine
end

