-- ==== Sys2Proof/Machine/Operands.lean ====
section
/-!
DEFINITION. Machine/Operands.lean: the addressing-mode resolver of 41_addressing_modes, all twelve modes, and the two
cost penalties (40_cpu_tick_engine R134, R135).

An operand carries the bytes that follow the opcode byte, which the fetch has read (log 15): `resolve` is what a mode
does after its operand bytes are in hand, with PC already behind the instruction. `resolveAt` is the resolver of the
spec as a whole, operand bytes read at PC and PC advanced.
-/

namespace Sys2Proof.Machine

/-- An operand: the mode with its operand bytes (R101, R105). -/
inductive Operand where
  | imp
  | imm (v : Byte)
  | zp0 (z : Byte)
  | zpx (z : Byte)
  | zpy (z : Byte)
  | rel (r : Byte)
  | abs (addr : Word)
  | abx (addr : Word)
  | aby (addr : Word)
  | ind (ptr : Word)
  | izx (z : Byte)
  | izy (z : Byte)
  deriving DecidableEq, Repr

/-- The mode of an operand. -/
def operandMode : Operand → Mode
  | .imp => .imp
  | .imm _ => .imm
  | .zp0 _ => .zp0
  | .zpx _ => .zpx
  | .zpy _ => .zpy
  | .rel _ => .rel
  | .abs _ => .abs
  | .abx _ => .abx
  | .aby _ => .aby
  | .ind _ => .ind
  | .izx _ => .izx
  | .izy _ => .izy

/-- The operand of an instruction: its descriptor's mode (R106) with its operand bytes; the sentinel's mode is IMP
(R107). -/
def operandOf : Instr → Operand
  | .ldaImm v => .imm v
  | .ldaZp0 z => .zp0 z
  | .ldaZpx z => .zpx z
  | .ldaAbs addr => .abs addr
  | .ldaAbx addr => .abx addr
  | .ldaAby addr => .aby addr
  | .ldaIzx z => .izx z
  | .ldaIzy z => .izy z
  | .ldxImm v => .imm v
  | .ldxZp0 z => .zp0 z
  | .ldxZpy z => .zpy z
  | .ldxAbs addr => .abs addr
  | .ldxAby addr => .aby addr
  | .ldyImm v => .imm v
  | .ldyZp0 z => .zp0 z
  | .ldyZpx z => .zpx z
  | .ldyAbs addr => .abs addr
  | .ldyAbx addr => .abx addr
  | .staZp0 z => .zp0 z
  | .staZpx z => .zpx z
  | .staAbs addr => .abs addr
  | .staAbx addr => .abx addr
  | .staAby addr => .aby addr
  | .staIzx z => .izx z
  | .staIzy z => .izy z
  | .stxZp0 z => .zp0 z
  | .stxZpy z => .zpy z
  | .stxAbs addr => .abs addr
  | .styZp0 z => .zp0 z
  | .styZpx z => .zpx z
  | .styAbs addr => .abs addr
  | .bcc r => .rel r
  | .bcs r => .rel r
  | .bne r => .rel r
  | .beq r => .rel r
  | .unimp00 | .unimp01 | .unimp02 | .unimp03 | .unimp04 | .unimp05 | .unimp06 | .unimp07
  | .unimp08 | .unimp09 | .unimp0A | .unimp0B | .unimp0C | .unimp0D | .unimp0E | .unimp0F
  | .unimp10 | .unimp11 | .unimp12 | .unimp13 | .unimp14 | .unimp15 | .unimp16 | .unimp17
  | .unimp18 | .unimp19 | .unimp1A | .unimp1B | .unimp1C | .unimp1D | .unimp1E | .unimp1F
  | .unimp20 | .unimp21 | .unimp22 | .unimp23 | .unimp24 | .unimp25 | .unimp26 | .unimp27
  | .unimp28 | .unimp29 | .unimp2A | .unimp2B | .unimp2C | .unimp2D | .unimp2E | .unimp2F
  | .unimp30 | .unimp31 | .unimp32 | .unimp33 | .unimp34 | .unimp35 | .unimp36 | .unimp37
  | .unimp38 | .unimp39 | .unimp3A | .unimp3B | .unimp3C | .unimp3D | .unimp3E | .unimp3F
  | .unimp40 | .unimp41 | .unimp42 | .unimp43 | .unimp44 | .unimp45 | .unimp46 | .unimp47
  | .unimp48 | .unimp49 | .unimp4A | .unimp4B | .unimp4C | .unimp4D | .unimp4E | .unimp4F
  | .unimp50 | .unimp51 | .unimp52 | .unimp53 | .unimp54 | .unimp55 | .unimp56 | .unimp57
  | .unimp58 | .unimp59 | .unimp5A | .unimp5B | .unimp5C | .unimp5D | .unimp5E | .unimp5F
  | .unimp60 | .unimp61 | .unimp62 | .unimp63 | .unimp64 | .unimp65 | .unimp66 | .unimp67
  | .unimp68 | .unimp69 | .unimp6A | .unimp6B | .unimp6C | .unimp6D | .unimp6E | .unimp6F
  | .unimp70 | .unimp71 | .unimp72 | .unimp73 | .unimp74 | .unimp75 | .unimp76 | .unimp77
  | .unimp78 | .unimp79 | .unimp7A | .unimp7B | .unimp7C | .unimp7D | .unimp7E | .unimp7F
  | .unimp80 | .unimp82 | .unimp83 | .unimp87 | .unimp88 | .unimp89 | .unimp8A | .unimp8B
  | .unimp8F | .unimp92 | .unimp93 | .unimp97 | .unimp98 | .unimp9A | .unimp9B | .unimp9C
  | .unimp9E | .unimp9F | .unimpA3 | .unimpA7 | .unimpA8 | .unimpAA | .unimpAB | .unimpAF
  | .unimpB2 | .unimpB3 | .unimpB7 | .unimpB8 | .unimpBA | .unimpBB | .unimpBF | .unimpC0
  | .unimpC1 | .unimpC2 | .unimpC3 | .unimpC4 | .unimpC5 | .unimpC6 | .unimpC7 | .unimpC8
  | .unimpC9 | .unimpCA | .unimpCB | .unimpCC | .unimpCD | .unimpCE | .unimpCF | .unimpD1
  | .unimpD2 | .unimpD3 | .unimpD4 | .unimpD5 | .unimpD6 | .unimpD7 | .unimpD8 | .unimpD9
  | .unimpDA | .unimpDB | .unimpDC | .unimpDD | .unimpDE | .unimpDF | .unimpE0 | .unimpE1
  | .unimpE2 | .unimpE3 | .unimpE4 | .unimpE5 | .unimpE6 | .unimpE7 | .unimpE8 | .unimpE9
  | .unimpEA | .unimpEB | .unimpEC | .unimpED | .unimpEE | .unimpEF | .unimpF1 | .unimpF2
  | .unimpF3 | .unimpF4 | .unimpF5 | .unimpF6 | .unimpF7 | .unimpF8 | .unimpF9 | .unimpFA
  | .unimpFB | .unimpFC | .unimpFD | .unimpFE | .unimpFF => .imp

/-- The length of an instruction with this operand, as a PC increment (R105). -/
def instrLength (o : Operand) : Word := BitVec.ofNat 16 (operandMode o).length

/-- `zext_16(b)` (R14). -/
def zext (b : Byte) : Word := b.setWidth 16

/-- `sext_16(b)` (R14). -/
def sext (b : Byte) : Word := b.signExtend 16

/-- The page of an address (R15). -/
def page (a : Word) : Byte := highByte a

/-- A resolver's answer (R150) with the state after its pointer reads. -/
structure Resolved where
  addr : Word
  crossed : Bool
  state : State

/-- A base address indexed modulo 2^16, with the page-crossed indicator (R158, R159, R162, R163). -/
def indexed (base : Word) (index : Byte) (s : State) : Resolved :=
  ⟨base + zext index, page (base + zext index) != page base, s⟩

/-- The little-endian word whose bytes lie at `p` and, in the same page, at the next offset: the pointer read of IND
with its page-wrap quirk (R160) and, with page 0x00, of IZX and IZY (R161, R162). -/
def readPointer (pg offset : Byte) (s : State) : Word × State :=
  readWord (wordOf pg offset) (wordOf pg (offset + 1#8)) s

/-- What a mode does once its operand bytes are read and PC is behind the instruction (R151-R162). For REL the result
is the sign-extended displacement, not an address (R156). -/
def resolve (o : Operand) (s : State) : Resolved :=
  match o with
  | .imp => ⟨0x0000#16, false, s⟩
  | .imm _ => ⟨s.pc - 1#16, false, s⟩
  | .zp0 z => ⟨zext z, false, s⟩
  | .zpx z => ⟨zext (z + s.x), false, s⟩
  | .zpy z => ⟨zext (z + s.y), false, s⟩
  | .rel r => ⟨sext r, false, s⟩
  | .abs addr => ⟨addr, false, s⟩
  | .abx addr => indexed addr s.x s
  | .aby addr => indexed addr s.y s
  | .ind ptr => ⟨(readPointer (highByte ptr) (lowByte ptr) s).1, false, (readPointer (highByte ptr) (lowByte ptr) s).2⟩
  | .izx z => ⟨(readPointer 0x00#8 (z + s.x) s).1, false, (readPointer 0x00#8 (z + s.x) s).2⟩
  | .izy z => indexed (readPointer 0x00#8 z s).1 s.y (readPointer 0x00#8 z s).2

/-- The byte at PC, with PC advanced over it (R131, R150). -/
def nextByte (s : State) : Byte × State :=
  ((memRead s.pc s).1, setPc (s.pc + 1#16) (memRead s.pc s).2)

/-- Two bytes at PC, low byte first, with PC advanced over them (R102, R157). -/
def nextWord (s : State) : Word × State :=
  (wordOf (nextByte (nextByte s).2).1 (nextByte s).1, (nextByte (nextByte s).2).2)

/-- THE RESOLVER `Resolve(mode)` of R150, run with PC behind the opcode byte: operand bytes read at PC, PC advanced
over them, the effective address, the page-crossed indicator. IMM reads nothing: its address is that of the operand
byte (R152). -/
def resolveAt (m : Mode) (s : State) : Resolved :=
  match m with
  | .imp => resolve .imp s
  | .imm => ⟨s.pc, false, setPc (s.pc + 1#16) s⟩
  | .zp0 => resolve (.zp0 (nextByte s).1) (nextByte s).2
  | .zpx => resolve (.zpx (nextByte s).1) (nextByte s).2
  | .zpy => resolve (.zpy (nextByte s).1) (nextByte s).2
  | .rel => resolve (.rel (nextByte s).1) (nextByte s).2
  | .abs => resolve (.abs (nextWord s).1) (nextWord s).2
  | .abx => resolve (.abx (nextWord s).1) (nextWord s).2
  | .aby => resolve (.aby (nextWord s).1) (nextWord s).2
  | .ind => resolve (.ind (nextWord s).1) (nextWord s).2
  | .izx => resolve (.izx (nextByte s).1) (nextByte s).2
  | .izy => resolve (.izy (nextByte s).1) (nextByte s).2

/-- The page-crossing penalty of a non-branch instruction (R134), stores included (D10). -/
def indexPenalty (m : Mode) (crossed : Bool) : Byte :=
  match m with
  | .abx | .aby | .izy => if crossed then 1#8 else 0#8
  | _ => 0#8

/-- The penalty of a branch (R135). -/
def branchPenalty (taken crossed : Bool) : Byte :=
  if taken then (if crossed then 2#8 else 1#8) else 0#8

end Sys2Proof.Machine
end

