-- ==== Sys2Proof/Machine/Branches.lean ====
section
/-!
DEFINITION. Machine/Branches.lean: BCC, BCS, BNE, BEQ (44_branches): the branch handler and one meaning for each.
-/

namespace Sys2Proof.Machine

/-- Does the flag match the polarity (R221-R224)? -/
def condHolds (c : Cond) (p : Byte) : Bool :=
  match c with
  | .carryClear => !getFlag .carry p
  | .carrySet => getFlag .carry p
  | .notEqual => !getFlag .zero p
  | .equal => getFlag .zero p

/-- The branch handler, with PC on the byte after the branch and `rel` the sign-extended displacement (R220, R226). -/
def branchTo (c : Cond) (rel : Word) (s : State) : State :=
  if condHolds c s.p then takeBranch (s.pc + rel) (page (s.pc + rel) != page s.pc) s else s

/-- A branch instruction: the whole fetch tick but for the reads of its own bytes (R130, R133, R135, R220). -/
def branchInstr (c : Cond) (op base : Byte) (r : Byte) (s : State) : Outcome :=
  let s := branchTo c (sext r) (startInstr op 2#16 s)
  .next (setCycles (base + branchPenalty s.branchTaken s.pageCrossed) s)

/-- `BCC`, branch if carry clear (R221). -/
def execBcc (r : Byte) (s : State) : Outcome := branchInstr .carryClear 0x90#8 2#8 r s

/-- `BCS`, branch if carry set (R222). -/
def execBcs (r : Byte) (s : State) : Outcome := branchInstr .carrySet 0xB0#8 2#8 r s

/-- `BNE`, branch if Zero clear (R223). -/
def execBne (r : Byte) (s : State) : Outcome := branchInstr .notEqual 0xD0#8 2#8 r s

/-- `BEQ`, branch if Zero set (R224). -/
def execBeq (r : Byte) (s : State) : Outcome := branchInstr .equal 0xF0#8 2#8 r s


end Sys2Proof.Machine
end

