-- ==== Sys2Proof/Machine/Loads.lean ====
section
/-!
DEFINITION. Machine/Loads.lean: LDA, LDX, LDY (42_loads): the load handler and one meaning for each of the 18 opcodes.
-/

namespace Sys2Proof.Machine

/-- The data byte at the effective address. In immediate mode it is the operand byte, which the fetch has read with
the one `MemRead` the handler makes there (R152, R172; log 15). -/
def readOperand (o : Operand) (addr : Word) (s : State) : Byte × State :=
  match o with
  | .imm v => (v, s)
  | _ => memRead addr s

/-- The register and flag writes of the load handler (R170). -/
def loadReg (r : Reg) (v : Byte) (s : State) : State := setP (loadFlags v s.p) (setReg r v s)

/-- The load handler after the resolver: one read of the effective address, then the register and the flags (R170). -/
def loadFrom (r : Reg) (o : Operand) (res : Resolved) : State :=
  let s := setPageCrossed res.crossed res.state
  loadReg r (readOperand o res.addr s).1 (readOperand o res.addr s).2

/-- A load instruction: the whole fetch tick but for the reads of its own bytes (R130, R133, R134, R170). -/
def loadInstr (r : Reg) (op base : Byte) (o : Operand) (s : State) : Outcome :=
  let s := startInstr op (instrLength o) s
  let res := resolve o s
  .next (setCycles (base + indexPenalty (operandMode o) res.crossed) (loadFrom r o res))

/-- `LDA #v` (R172). -/
def execLdaImm (v : Byte) (s : State) : Outcome := loadInstr .a 0xA9#8 2#8 (.imm v) s

/-- `LDA z` (R173). -/
def execLdaZp0 (z : Byte) (s : State) : Outcome := loadInstr .a 0xA5#8 3#8 (.zp0 z) s

/-- `LDA z,X` (R174). -/
def execLdaZpx (z : Byte) (s : State) : Outcome := loadInstr .a 0xB5#8 4#8 (.zpx z) s

/-- `LDA addr` (R175). -/
def execLdaAbs (addr : Word) (s : State) : Outcome := loadInstr .a 0xAD#8 4#8 (.abs addr) s

/-- `LDA addr,X` (R176). -/
def execLdaAbx (addr : Word) (s : State) : Outcome := loadInstr .a 0xBD#8 4#8 (.abx addr) s

/-- `LDA addr,Y` (R177). -/
def execLdaAby (addr : Word) (s : State) : Outcome := loadInstr .a 0xB9#8 4#8 (.aby addr) s

/-- `LDA (z,X)` (R178). -/
def execLdaIzx (z : Byte) (s : State) : Outcome := loadInstr .a 0xA1#8 6#8 (.izx z) s

/-- `LDA (z),Y` (R179). -/
def execLdaIzy (z : Byte) (s : State) : Outcome := loadInstr .a 0xB1#8 5#8 (.izy z) s

/-- `LDX #v` (R181). -/
def execLdxImm (v : Byte) (s : State) : Outcome := loadInstr .x 0xA2#8 2#8 (.imm v) s

/-- `LDX z` (R182). -/
def execLdxZp0 (z : Byte) (s : State) : Outcome := loadInstr .x 0xA6#8 3#8 (.zp0 z) s

/-- `LDX z,Y` (R183). -/
def execLdxZpy (z : Byte) (s : State) : Outcome := loadInstr .x 0xB6#8 4#8 (.zpy z) s

/-- `LDX addr` (R184). -/
def execLdxAbs (addr : Word) (s : State) : Outcome := loadInstr .x 0xAE#8 4#8 (.abs addr) s

/-- `LDX addr,Y` (R185). -/
def execLdxAby (addr : Word) (s : State) : Outcome := loadInstr .x 0xBE#8 4#8 (.aby addr) s

/-- `LDY #v` (R187). -/
def execLdyImm (v : Byte) (s : State) : Outcome := loadInstr .y 0xA0#8 2#8 (.imm v) s

/-- `LDY z` (R188). -/
def execLdyZp0 (z : Byte) (s : State) : Outcome := loadInstr .y 0xA4#8 3#8 (.zp0 z) s

/-- `LDY z,X` (R189). -/
def execLdyZpx (z : Byte) (s : State) : Outcome := loadInstr .y 0xB4#8 4#8 (.zpx z) s

/-- `LDY addr` (R190). -/
def execLdyAbs (addr : Word) (s : State) : Outcome := loadInstr .y 0xAC#8 4#8 (.abs addr) s

/-- `LDY addr,X` (R191). -/
def execLdyAbx (addr : Word) (s : State) : Outcome := loadInstr .y 0xBC#8 4#8 (.abx addr) s


end Sys2Proof.Machine
end

