-- ==== Sys2Proof/Machine/Stores.lean ====
section
/-!
DEFINITION. Machine/Stores.lean: STA, STX, STY (43_stores): the store handler and one meaning for each of the 13
opcodes.
-/

namespace Sys2Proof.Machine

/-- The store handler after the resolver: one write, no flag, no register, no read of the target (R200). -/
def storeTo (r : Reg) (res : Resolved) : State :=
  let s := setPageCrossed res.crossed res.state
  memWrite res.addr (getReg r s) s

/-- A store instruction: the whole fetch tick but for the reads of its own bytes (R130, R133, R134, R200). -/
def storeInstr (r : Reg) (op base : Byte) (o : Operand) (s : State) : Outcome :=
  let s := startInstr op (instrLength o) s
  let res := resolve o s
  .next (setCycles (base + indexPenalty (operandMode o) res.crossed) (storeTo r res))

/-- `STA z` (R202). -/
def execStaZp0 (z : Byte) (s : State) : Outcome := storeInstr .a 0x85#8 3#8 (.zp0 z) s

/-- `STA z,X` (R203). -/
def execStaZpx (z : Byte) (s : State) : Outcome := storeInstr .a 0x95#8 4#8 (.zpx z) s

/-- `STA addr` (R204). -/
def execStaAbs (addr : Word) (s : State) : Outcome := storeInstr .a 0x8D#8 4#8 (.abs addr) s

/-- `STA addr,X` (R205). -/
def execStaAbx (addr : Word) (s : State) : Outcome := storeInstr .a 0x9D#8 5#8 (.abx addr) s

/-- `STA addr,Y` (R206). -/
def execStaAby (addr : Word) (s : State) : Outcome := storeInstr .a 0x99#8 5#8 (.aby addr) s

/-- `STA (z,X)` (R207). -/
def execStaIzx (z : Byte) (s : State) : Outcome := storeInstr .a 0x81#8 6#8 (.izx z) s

/-- `STA (z),Y` (R208). -/
def execStaIzy (z : Byte) (s : State) : Outcome := storeInstr .a 0x91#8 6#8 (.izy z) s

/-- `STX z` (R210). -/
def execStxZp0 (z : Byte) (s : State) : Outcome := storeInstr .x 0x86#8 3#8 (.zp0 z) s

/-- `STX z,Y` (R211). -/
def execStxZpy (z : Byte) (s : State) : Outcome := storeInstr .x 0x96#8 4#8 (.zpy z) s

/-- `STX addr` (R212). -/
def execStxAbs (addr : Word) (s : State) : Outcome := storeInstr .x 0x8E#8 4#8 (.abs addr) s

/-- `STY z` (R214). -/
def execStyZp0 (z : Byte) (s : State) : Outcome := storeInstr .y 0x84#8 3#8 (.zp0 z) s

/-- `STY z,X` (R215). -/
def execStyZpx (z : Byte) (s : State) : Outcome := storeInstr .y 0x94#8 4#8 (.zpx z) s

/-- `STY addr` (R216). -/
def execStyAbs (addr : Word) (s : State) : Outcome := storeInstr .y 0x8C#8 4#8 (.abs addr) s


end Sys2Proof.Machine
end

