-- ==== Sys2Proof/Machine/Unimplemented.lean ====
section
/-!
DEFINITION. Machine/Unimplemented.lean: the 221 opcode bytes with no descriptor (45_unimplemented_opcodes). Each is a
one-byte instruction with the sentinel's descriptor, whatever the byte means on a real 6502.
-/

namespace Sys2Proof.Machine

/-- An unimplemented opcode: PC over the one byte, `opcode` written, cost 1, nothing else (R107, R230, R231). -/
def unimpInstr (op : Byte) (s : State) : Outcome := .next (setCycles 1#8 (startInstr op 1#16 s))

/-- Opcode byte 0x00 (R230). -/
def execUnimp00 (s : State) : Outcome := unimpInstr 0x00#8 s

/-- Opcode byte 0x01 (R230). -/
def execUnimp01 (s : State) : Outcome := unimpInstr 0x01#8 s

/-- Opcode byte 0x02 (R230). -/
def execUnimp02 (s : State) : Outcome := unimpInstr 0x02#8 s

/-- Opcode byte 0x03 (R230). -/
def execUnimp03 (s : State) : Outcome := unimpInstr 0x03#8 s

/-- Opcode byte 0x04 (R230). -/
def execUnimp04 (s : State) : Outcome := unimpInstr 0x04#8 s

/-- Opcode byte 0x05 (R230). -/
def execUnimp05 (s : State) : Outcome := unimpInstr 0x05#8 s

/-- Opcode byte 0x06 (R230). -/
def execUnimp06 (s : State) : Outcome := unimpInstr 0x06#8 s

/-- Opcode byte 0x07 (R230). -/
def execUnimp07 (s : State) : Outcome := unimpInstr 0x07#8 s

/-- Opcode byte 0x08 (R230). -/
def execUnimp08 (s : State) : Outcome := unimpInstr 0x08#8 s

/-- Opcode byte 0x09 (R230). -/
def execUnimp09 (s : State) : Outcome := unimpInstr 0x09#8 s

/-- Opcode byte 0x0A (R230). -/
def execUnimp0A (s : State) : Outcome := unimpInstr 0x0A#8 s

/-- Opcode byte 0x0B (R230). -/
def execUnimp0B (s : State) : Outcome := unimpInstr 0x0B#8 s

/-- Opcode byte 0x0C (R230). -/
def execUnimp0C (s : State) : Outcome := unimpInstr 0x0C#8 s

/-- Opcode byte 0x0D (R230). -/
def execUnimp0D (s : State) : Outcome := unimpInstr 0x0D#8 s

/-- Opcode byte 0x0E (R230). -/
def execUnimp0E (s : State) : Outcome := unimpInstr 0x0E#8 s

/-- Opcode byte 0x0F (R230). -/
def execUnimp0F (s : State) : Outcome := unimpInstr 0x0F#8 s

/-- Opcode byte 0x10 (R230). -/
def execUnimp10 (s : State) : Outcome := unimpInstr 0x10#8 s

/-- Opcode byte 0x11 (R230). -/
def execUnimp11 (s : State) : Outcome := unimpInstr 0x11#8 s

/-- Opcode byte 0x12 (R230). -/
def execUnimp12 (s : State) : Outcome := unimpInstr 0x12#8 s

/-- Opcode byte 0x13 (R230). -/
def execUnimp13 (s : State) : Outcome := unimpInstr 0x13#8 s

/-- Opcode byte 0x14 (R230). -/
def execUnimp14 (s : State) : Outcome := unimpInstr 0x14#8 s

/-- Opcode byte 0x15 (R230). -/
def execUnimp15 (s : State) : Outcome := unimpInstr 0x15#8 s

/-- Opcode byte 0x16 (R230). -/
def execUnimp16 (s : State) : Outcome := unimpInstr 0x16#8 s

/-- Opcode byte 0x17 (R230). -/
def execUnimp17 (s : State) : Outcome := unimpInstr 0x17#8 s

/-- Opcode byte 0x18 (R230). -/
def execUnimp18 (s : State) : Outcome := unimpInstr 0x18#8 s

/-- Opcode byte 0x19 (R230). -/
def execUnimp19 (s : State) : Outcome := unimpInstr 0x19#8 s

/-- Opcode byte 0x1A (R230). -/
def execUnimp1A (s : State) : Outcome := unimpInstr 0x1A#8 s

/-- Opcode byte 0x1B (R230). -/
def execUnimp1B (s : State) : Outcome := unimpInstr 0x1B#8 s

/-- Opcode byte 0x1C (R230). -/
def execUnimp1C (s : State) : Outcome := unimpInstr 0x1C#8 s

/-- Opcode byte 0x1D (R230). -/
def execUnimp1D (s : State) : Outcome := unimpInstr 0x1D#8 s

/-- Opcode byte 0x1E (R230). -/
def execUnimp1E (s : State) : Outcome := unimpInstr 0x1E#8 s

/-- Opcode byte 0x1F (R230). -/
def execUnimp1F (s : State) : Outcome := unimpInstr 0x1F#8 s

/-- Opcode byte 0x20 (R230). -/
def execUnimp20 (s : State) : Outcome := unimpInstr 0x20#8 s

/-- Opcode byte 0x21 (R230). -/
def execUnimp21 (s : State) : Outcome := unimpInstr 0x21#8 s

/-- Opcode byte 0x22 (R230). -/
def execUnimp22 (s : State) : Outcome := unimpInstr 0x22#8 s

/-- Opcode byte 0x23 (R230). -/
def execUnimp23 (s : State) : Outcome := unimpInstr 0x23#8 s

/-- Opcode byte 0x24 (R230). -/
def execUnimp24 (s : State) : Outcome := unimpInstr 0x24#8 s

/-- Opcode byte 0x25 (R230). -/
def execUnimp25 (s : State) : Outcome := unimpInstr 0x25#8 s

/-- Opcode byte 0x26 (R230). -/
def execUnimp26 (s : State) : Outcome := unimpInstr 0x26#8 s

/-- Opcode byte 0x27 (R230). -/
def execUnimp27 (s : State) : Outcome := unimpInstr 0x27#8 s

/-- Opcode byte 0x28 (R230). -/
def execUnimp28 (s : State) : Outcome := unimpInstr 0x28#8 s

/-- Opcode byte 0x29 (R230). -/
def execUnimp29 (s : State) : Outcome := unimpInstr 0x29#8 s

/-- Opcode byte 0x2A (R230). -/
def execUnimp2A (s : State) : Outcome := unimpInstr 0x2A#8 s

/-- Opcode byte 0x2B (R230). -/
def execUnimp2B (s : State) : Outcome := unimpInstr 0x2B#8 s

/-- Opcode byte 0x2C (R230). -/
def execUnimp2C (s : State) : Outcome := unimpInstr 0x2C#8 s

/-- Opcode byte 0x2D (R230). -/
def execUnimp2D (s : State) : Outcome := unimpInstr 0x2D#8 s

/-- Opcode byte 0x2E (R230). -/
def execUnimp2E (s : State) : Outcome := unimpInstr 0x2E#8 s

/-- Opcode byte 0x2F (R230). -/
def execUnimp2F (s : State) : Outcome := unimpInstr 0x2F#8 s

/-- Opcode byte 0x30 (R230). -/
def execUnimp30 (s : State) : Outcome := unimpInstr 0x30#8 s

/-- Opcode byte 0x31 (R230). -/
def execUnimp31 (s : State) : Outcome := unimpInstr 0x31#8 s

/-- Opcode byte 0x32 (R230). -/
def execUnimp32 (s : State) : Outcome := unimpInstr 0x32#8 s

/-- Opcode byte 0x33 (R230). -/
def execUnimp33 (s : State) : Outcome := unimpInstr 0x33#8 s

/-- Opcode byte 0x34 (R230). -/
def execUnimp34 (s : State) : Outcome := unimpInstr 0x34#8 s

/-- Opcode byte 0x35 (R230). -/
def execUnimp35 (s : State) : Outcome := unimpInstr 0x35#8 s

/-- Opcode byte 0x36 (R230). -/
def execUnimp36 (s : State) : Outcome := unimpInstr 0x36#8 s

/-- Opcode byte 0x37 (R230). -/
def execUnimp37 (s : State) : Outcome := unimpInstr 0x37#8 s

/-- Opcode byte 0x38 (R230). -/
def execUnimp38 (s : State) : Outcome := unimpInstr 0x38#8 s

/-- Opcode byte 0x39 (R230). -/
def execUnimp39 (s : State) : Outcome := unimpInstr 0x39#8 s

/-- Opcode byte 0x3A (R230). -/
def execUnimp3A (s : State) : Outcome := unimpInstr 0x3A#8 s

/-- Opcode byte 0x3B (R230). -/
def execUnimp3B (s : State) : Outcome := unimpInstr 0x3B#8 s

/-- Opcode byte 0x3C (R230). -/
def execUnimp3C (s : State) : Outcome := unimpInstr 0x3C#8 s

/-- Opcode byte 0x3D (R230). -/
def execUnimp3D (s : State) : Outcome := unimpInstr 0x3D#8 s

/-- Opcode byte 0x3E (R230). -/
def execUnimp3E (s : State) : Outcome := unimpInstr 0x3E#8 s

/-- Opcode byte 0x3F (R230). -/
def execUnimp3F (s : State) : Outcome := unimpInstr 0x3F#8 s

/-- Opcode byte 0x40 (R230). -/
def execUnimp40 (s : State) : Outcome := unimpInstr 0x40#8 s

/-- Opcode byte 0x41 (R230). -/
def execUnimp41 (s : State) : Outcome := unimpInstr 0x41#8 s

/-- Opcode byte 0x42 (R230). -/
def execUnimp42 (s : State) : Outcome := unimpInstr 0x42#8 s

/-- Opcode byte 0x43 (R230). -/
def execUnimp43 (s : State) : Outcome := unimpInstr 0x43#8 s

/-- Opcode byte 0x44 (R230). -/
def execUnimp44 (s : State) : Outcome := unimpInstr 0x44#8 s

/-- Opcode byte 0x45 (R230). -/
def execUnimp45 (s : State) : Outcome := unimpInstr 0x45#8 s

/-- Opcode byte 0x46 (R230). -/
def execUnimp46 (s : State) : Outcome := unimpInstr 0x46#8 s

/-- Opcode byte 0x47 (R230). -/
def execUnimp47 (s : State) : Outcome := unimpInstr 0x47#8 s

/-- Opcode byte 0x48 (R230). -/
def execUnimp48 (s : State) : Outcome := unimpInstr 0x48#8 s

/-- Opcode byte 0x49 (R230). -/
def execUnimp49 (s : State) : Outcome := unimpInstr 0x49#8 s

/-- Opcode byte 0x4A (R230). -/
def execUnimp4A (s : State) : Outcome := unimpInstr 0x4A#8 s

/-- Opcode byte 0x4B (R230). -/
def execUnimp4B (s : State) : Outcome := unimpInstr 0x4B#8 s

/-- Opcode byte 0x4C (R230). -/
def execUnimp4C (s : State) : Outcome := unimpInstr 0x4C#8 s

/-- Opcode byte 0x4D (R230). -/
def execUnimp4D (s : State) : Outcome := unimpInstr 0x4D#8 s

/-- Opcode byte 0x4E (R230). -/
def execUnimp4E (s : State) : Outcome := unimpInstr 0x4E#8 s

/-- Opcode byte 0x4F (R230). -/
def execUnimp4F (s : State) : Outcome := unimpInstr 0x4F#8 s

/-- Opcode byte 0x50 (R230). -/
def execUnimp50 (s : State) : Outcome := unimpInstr 0x50#8 s

/-- Opcode byte 0x51 (R230). -/
def execUnimp51 (s : State) : Outcome := unimpInstr 0x51#8 s

/-- Opcode byte 0x52 (R230). -/
def execUnimp52 (s : State) : Outcome := unimpInstr 0x52#8 s

/-- Opcode byte 0x53 (R230). -/
def execUnimp53 (s : State) : Outcome := unimpInstr 0x53#8 s

/-- Opcode byte 0x54 (R230). -/
def execUnimp54 (s : State) : Outcome := unimpInstr 0x54#8 s

/-- Opcode byte 0x55 (R230). -/
def execUnimp55 (s : State) : Outcome := unimpInstr 0x55#8 s

/-- Opcode byte 0x56 (R230). -/
def execUnimp56 (s : State) : Outcome := unimpInstr 0x56#8 s

/-- Opcode byte 0x57 (R230). -/
def execUnimp57 (s : State) : Outcome := unimpInstr 0x57#8 s

/-- Opcode byte 0x58 (R230). -/
def execUnimp58 (s : State) : Outcome := unimpInstr 0x58#8 s

/-- Opcode byte 0x59 (R230). -/
def execUnimp59 (s : State) : Outcome := unimpInstr 0x59#8 s

/-- Opcode byte 0x5A (R230). -/
def execUnimp5A (s : State) : Outcome := unimpInstr 0x5A#8 s

/-- Opcode byte 0x5B (R230). -/
def execUnimp5B (s : State) : Outcome := unimpInstr 0x5B#8 s

/-- Opcode byte 0x5C (R230). -/
def execUnimp5C (s : State) : Outcome := unimpInstr 0x5C#8 s

/-- Opcode byte 0x5D (R230). -/
def execUnimp5D (s : State) : Outcome := unimpInstr 0x5D#8 s

/-- Opcode byte 0x5E (R230). -/
def execUnimp5E (s : State) : Outcome := unimpInstr 0x5E#8 s

/-- Opcode byte 0x5F (R230). -/
def execUnimp5F (s : State) : Outcome := unimpInstr 0x5F#8 s

/-- Opcode byte 0x60 (R230). -/
def execUnimp60 (s : State) : Outcome := unimpInstr 0x60#8 s

/-- Opcode byte 0x61 (R230). -/
def execUnimp61 (s : State) : Outcome := unimpInstr 0x61#8 s

/-- Opcode byte 0x62 (R230). -/
def execUnimp62 (s : State) : Outcome := unimpInstr 0x62#8 s

/-- Opcode byte 0x63 (R230). -/
def execUnimp63 (s : State) : Outcome := unimpInstr 0x63#8 s

/-- Opcode byte 0x64 (R230). -/
def execUnimp64 (s : State) : Outcome := unimpInstr 0x64#8 s

/-- Opcode byte 0x65 (R230). -/
def execUnimp65 (s : State) : Outcome := unimpInstr 0x65#8 s

/-- Opcode byte 0x66 (R230). -/
def execUnimp66 (s : State) : Outcome := unimpInstr 0x66#8 s

/-- Opcode byte 0x67 (R230). -/
def execUnimp67 (s : State) : Outcome := unimpInstr 0x67#8 s

/-- Opcode byte 0x68 (R230). -/
def execUnimp68 (s : State) : Outcome := unimpInstr 0x68#8 s

/-- Opcode byte 0x69 (R230). -/
def execUnimp69 (s : State) : Outcome := unimpInstr 0x69#8 s

/-- Opcode byte 0x6A (R230). -/
def execUnimp6A (s : State) : Outcome := unimpInstr 0x6A#8 s

/-- Opcode byte 0x6B (R230). -/
def execUnimp6B (s : State) : Outcome := unimpInstr 0x6B#8 s

/-- Opcode byte 0x6C (R230). -/
def execUnimp6C (s : State) : Outcome := unimpInstr 0x6C#8 s

/-- Opcode byte 0x6D (R230). -/
def execUnimp6D (s : State) : Outcome := unimpInstr 0x6D#8 s

/-- Opcode byte 0x6E (R230). -/
def execUnimp6E (s : State) : Outcome := unimpInstr 0x6E#8 s

/-- Opcode byte 0x6F (R230). -/
def execUnimp6F (s : State) : Outcome := unimpInstr 0x6F#8 s

/-- Opcode byte 0x70 (R230). -/
def execUnimp70 (s : State) : Outcome := unimpInstr 0x70#8 s

/-- Opcode byte 0x71 (R230). -/
def execUnimp71 (s : State) : Outcome := unimpInstr 0x71#8 s

/-- Opcode byte 0x72 (R230). -/
def execUnimp72 (s : State) : Outcome := unimpInstr 0x72#8 s

/-- Opcode byte 0x73 (R230). -/
def execUnimp73 (s : State) : Outcome := unimpInstr 0x73#8 s

/-- Opcode byte 0x74 (R230). -/
def execUnimp74 (s : State) : Outcome := unimpInstr 0x74#8 s

/-- Opcode byte 0x75 (R230). -/
def execUnimp75 (s : State) : Outcome := unimpInstr 0x75#8 s

/-- Opcode byte 0x76 (R230). -/
def execUnimp76 (s : State) : Outcome := unimpInstr 0x76#8 s

/-- Opcode byte 0x77 (R230). -/
def execUnimp77 (s : State) : Outcome := unimpInstr 0x77#8 s

/-- Opcode byte 0x78 (R230). -/
def execUnimp78 (s : State) : Outcome := unimpInstr 0x78#8 s

/-- Opcode byte 0x79 (R230). -/
def execUnimp79 (s : State) : Outcome := unimpInstr 0x79#8 s

/-- Opcode byte 0x7A (R230). -/
def execUnimp7A (s : State) : Outcome := unimpInstr 0x7A#8 s

/-- Opcode byte 0x7B (R230). -/
def execUnimp7B (s : State) : Outcome := unimpInstr 0x7B#8 s

/-- Opcode byte 0x7C (R230). -/
def execUnimp7C (s : State) : Outcome := unimpInstr 0x7C#8 s

/-- Opcode byte 0x7D (R230). -/
def execUnimp7D (s : State) : Outcome := unimpInstr 0x7D#8 s

/-- Opcode byte 0x7E (R230). -/
def execUnimp7E (s : State) : Outcome := unimpInstr 0x7E#8 s

/-- Opcode byte 0x7F (R230). -/
def execUnimp7F (s : State) : Outcome := unimpInstr 0x7F#8 s

/-- Opcode byte 0x80 (R230). -/
def execUnimp80 (s : State) : Outcome := unimpInstr 0x80#8 s

/-- Opcode byte 0x82 (R230). -/
def execUnimp82 (s : State) : Outcome := unimpInstr 0x82#8 s

/-- Opcode byte 0x83 (R230). -/
def execUnimp83 (s : State) : Outcome := unimpInstr 0x83#8 s

/-- Opcode byte 0x87 (R230). -/
def execUnimp87 (s : State) : Outcome := unimpInstr 0x87#8 s

/-- Opcode byte 0x88 (R230). -/
def execUnimp88 (s : State) : Outcome := unimpInstr 0x88#8 s

/-- Opcode byte 0x89 (R230). -/
def execUnimp89 (s : State) : Outcome := unimpInstr 0x89#8 s

/-- Opcode byte 0x8A (R230). -/
def execUnimp8A (s : State) : Outcome := unimpInstr 0x8A#8 s

/-- Opcode byte 0x8B (R230). -/
def execUnimp8B (s : State) : Outcome := unimpInstr 0x8B#8 s

/-- Opcode byte 0x8F (R230). -/
def execUnimp8F (s : State) : Outcome := unimpInstr 0x8F#8 s

/-- Opcode byte 0x92 (R230). -/
def execUnimp92 (s : State) : Outcome := unimpInstr 0x92#8 s

/-- Opcode byte 0x93 (R230). -/
def execUnimp93 (s : State) : Outcome := unimpInstr 0x93#8 s

/-- Opcode byte 0x97 (R230). -/
def execUnimp97 (s : State) : Outcome := unimpInstr 0x97#8 s

/-- Opcode byte 0x98 (R230). -/
def execUnimp98 (s : State) : Outcome := unimpInstr 0x98#8 s

/-- Opcode byte 0x9A (R230). -/
def execUnimp9A (s : State) : Outcome := unimpInstr 0x9A#8 s

/-- Opcode byte 0x9B (R230). -/
def execUnimp9B (s : State) : Outcome := unimpInstr 0x9B#8 s

/-- Opcode byte 0x9C (R230). -/
def execUnimp9C (s : State) : Outcome := unimpInstr 0x9C#8 s

/-- Opcode byte 0x9E (R230). -/
def execUnimp9E (s : State) : Outcome := unimpInstr 0x9E#8 s

/-- Opcode byte 0x9F (R230). -/
def execUnimp9F (s : State) : Outcome := unimpInstr 0x9F#8 s

/-- Opcode byte 0xA3 (R230). -/
def execUnimpA3 (s : State) : Outcome := unimpInstr 0xA3#8 s

/-- Opcode byte 0xA7 (R230). -/
def execUnimpA7 (s : State) : Outcome := unimpInstr 0xA7#8 s

/-- Opcode byte 0xA8 (R230). -/
def execUnimpA8 (s : State) : Outcome := unimpInstr 0xA8#8 s

/-- Opcode byte 0xAA (R230). -/
def execUnimpAA (s : State) : Outcome := unimpInstr 0xAA#8 s

/-- Opcode byte 0xAB (R230). -/
def execUnimpAB (s : State) : Outcome := unimpInstr 0xAB#8 s

/-- Opcode byte 0xAF (R230). -/
def execUnimpAF (s : State) : Outcome := unimpInstr 0xAF#8 s

/-- Opcode byte 0xB2 (R230). -/
def execUnimpB2 (s : State) : Outcome := unimpInstr 0xB2#8 s

/-- Opcode byte 0xB3 (R230). -/
def execUnimpB3 (s : State) : Outcome := unimpInstr 0xB3#8 s

/-- Opcode byte 0xB7 (R230). -/
def execUnimpB7 (s : State) : Outcome := unimpInstr 0xB7#8 s

/-- Opcode byte 0xB8 (R230). -/
def execUnimpB8 (s : State) : Outcome := unimpInstr 0xB8#8 s

/-- Opcode byte 0xBA (R230). -/
def execUnimpBA (s : State) : Outcome := unimpInstr 0xBA#8 s

/-- Opcode byte 0xBB (R230). -/
def execUnimpBB (s : State) : Outcome := unimpInstr 0xBB#8 s

/-- Opcode byte 0xBF (R230). -/
def execUnimpBF (s : State) : Outcome := unimpInstr 0xBF#8 s

/-- Opcode byte 0xC0 (R230). -/
def execUnimpC0 (s : State) : Outcome := unimpInstr 0xC0#8 s

/-- Opcode byte 0xC1 (R230). -/
def execUnimpC1 (s : State) : Outcome := unimpInstr 0xC1#8 s

/-- Opcode byte 0xC2 (R230). -/
def execUnimpC2 (s : State) : Outcome := unimpInstr 0xC2#8 s

/-- Opcode byte 0xC3 (R230). -/
def execUnimpC3 (s : State) : Outcome := unimpInstr 0xC3#8 s

/-- Opcode byte 0xC4 (R230). -/
def execUnimpC4 (s : State) : Outcome := unimpInstr 0xC4#8 s

/-- Opcode byte 0xC5 (R230). -/
def execUnimpC5 (s : State) : Outcome := unimpInstr 0xC5#8 s

/-- Opcode byte 0xC6 (R230). -/
def execUnimpC6 (s : State) : Outcome := unimpInstr 0xC6#8 s

/-- Opcode byte 0xC7 (R230). -/
def execUnimpC7 (s : State) : Outcome := unimpInstr 0xC7#8 s

/-- Opcode byte 0xC8 (R230). -/
def execUnimpC8 (s : State) : Outcome := unimpInstr 0xC8#8 s

/-- Opcode byte 0xC9 (R230). -/
def execUnimpC9 (s : State) : Outcome := unimpInstr 0xC9#8 s

/-- Opcode byte 0xCA (R230). -/
def execUnimpCA (s : State) : Outcome := unimpInstr 0xCA#8 s

/-- Opcode byte 0xCB (R230). -/
def execUnimpCB (s : State) : Outcome := unimpInstr 0xCB#8 s

/-- Opcode byte 0xCC (R230). -/
def execUnimpCC (s : State) : Outcome := unimpInstr 0xCC#8 s

/-- Opcode byte 0xCD (R230). -/
def execUnimpCD (s : State) : Outcome := unimpInstr 0xCD#8 s

/-- Opcode byte 0xCE (R230). -/
def execUnimpCE (s : State) : Outcome := unimpInstr 0xCE#8 s

/-- Opcode byte 0xCF (R230). -/
def execUnimpCF (s : State) : Outcome := unimpInstr 0xCF#8 s

/-- Opcode byte 0xD1 (R230). -/
def execUnimpD1 (s : State) : Outcome := unimpInstr 0xD1#8 s

/-- Opcode byte 0xD2 (R230). -/
def execUnimpD2 (s : State) : Outcome := unimpInstr 0xD2#8 s

/-- Opcode byte 0xD3 (R230). -/
def execUnimpD3 (s : State) : Outcome := unimpInstr 0xD3#8 s

/-- Opcode byte 0xD4 (R230). -/
def execUnimpD4 (s : State) : Outcome := unimpInstr 0xD4#8 s

/-- Opcode byte 0xD5 (R230). -/
def execUnimpD5 (s : State) : Outcome := unimpInstr 0xD5#8 s

/-- Opcode byte 0xD6 (R230). -/
def execUnimpD6 (s : State) : Outcome := unimpInstr 0xD6#8 s

/-- Opcode byte 0xD7 (R230). -/
def execUnimpD7 (s : State) : Outcome := unimpInstr 0xD7#8 s

/-- Opcode byte 0xD8 (R230). -/
def execUnimpD8 (s : State) : Outcome := unimpInstr 0xD8#8 s

/-- Opcode byte 0xD9 (R230). -/
def execUnimpD9 (s : State) : Outcome := unimpInstr 0xD9#8 s

/-- Opcode byte 0xDA (R230). -/
def execUnimpDA (s : State) : Outcome := unimpInstr 0xDA#8 s

/-- Opcode byte 0xDB (R230). -/
def execUnimpDB (s : State) : Outcome := unimpInstr 0xDB#8 s

/-- Opcode byte 0xDC (R230). -/
def execUnimpDC (s : State) : Outcome := unimpInstr 0xDC#8 s

/-- Opcode byte 0xDD (R230). -/
def execUnimpDD (s : State) : Outcome := unimpInstr 0xDD#8 s

/-- Opcode byte 0xDE (R230). -/
def execUnimpDE (s : State) : Outcome := unimpInstr 0xDE#8 s

/-- Opcode byte 0xDF (R230). -/
def execUnimpDF (s : State) : Outcome := unimpInstr 0xDF#8 s

/-- Opcode byte 0xE0 (R230). -/
def execUnimpE0 (s : State) : Outcome := unimpInstr 0xE0#8 s

/-- Opcode byte 0xE1 (R230). -/
def execUnimpE1 (s : State) : Outcome := unimpInstr 0xE1#8 s

/-- Opcode byte 0xE2 (R230). -/
def execUnimpE2 (s : State) : Outcome := unimpInstr 0xE2#8 s

/-- Opcode byte 0xE3 (R230). -/
def execUnimpE3 (s : State) : Outcome := unimpInstr 0xE3#8 s

/-- Opcode byte 0xE4 (R230). -/
def execUnimpE4 (s : State) : Outcome := unimpInstr 0xE4#8 s

/-- Opcode byte 0xE5 (R230). -/
def execUnimpE5 (s : State) : Outcome := unimpInstr 0xE5#8 s

/-- Opcode byte 0xE6 (R230). -/
def execUnimpE6 (s : State) : Outcome := unimpInstr 0xE6#8 s

/-- Opcode byte 0xE7 (R230). -/
def execUnimpE7 (s : State) : Outcome := unimpInstr 0xE7#8 s

/-- Opcode byte 0xE8 (R230). -/
def execUnimpE8 (s : State) : Outcome := unimpInstr 0xE8#8 s

/-- Opcode byte 0xE9 (R230). -/
def execUnimpE9 (s : State) : Outcome := unimpInstr 0xE9#8 s

/-- Opcode byte 0xEA (R230). -/
def execUnimpEA (s : State) : Outcome := unimpInstr 0xEA#8 s

/-- Opcode byte 0xEB (R230). -/
def execUnimpEB (s : State) : Outcome := unimpInstr 0xEB#8 s

/-- Opcode byte 0xEC (R230). -/
def execUnimpEC (s : State) : Outcome := unimpInstr 0xEC#8 s

/-- Opcode byte 0xED (R230). -/
def execUnimpED (s : State) : Outcome := unimpInstr 0xED#8 s

/-- Opcode byte 0xEE (R230). -/
def execUnimpEE (s : State) : Outcome := unimpInstr 0xEE#8 s

/-- Opcode byte 0xEF (R230). -/
def execUnimpEF (s : State) : Outcome := unimpInstr 0xEF#8 s

/-- Opcode byte 0xF1 (R230). -/
def execUnimpF1 (s : State) : Outcome := unimpInstr 0xF1#8 s

/-- Opcode byte 0xF2 (R230). -/
def execUnimpF2 (s : State) : Outcome := unimpInstr 0xF2#8 s

/-- Opcode byte 0xF3 (R230). -/
def execUnimpF3 (s : State) : Outcome := unimpInstr 0xF3#8 s

/-- Opcode byte 0xF4 (R230). -/
def execUnimpF4 (s : State) : Outcome := unimpInstr 0xF4#8 s

/-- Opcode byte 0xF5 (R230). -/
def execUnimpF5 (s : State) : Outcome := unimpInstr 0xF5#8 s

/-- Opcode byte 0xF6 (R230). -/
def execUnimpF6 (s : State) : Outcome := unimpInstr 0xF6#8 s

/-- Opcode byte 0xF7 (R230). -/
def execUnimpF7 (s : State) : Outcome := unimpInstr 0xF7#8 s

/-- Opcode byte 0xF8 (R230). -/
def execUnimpF8 (s : State) : Outcome := unimpInstr 0xF8#8 s

/-- Opcode byte 0xF9 (R230). -/
def execUnimpF9 (s : State) : Outcome := unimpInstr 0xF9#8 s

/-- Opcode byte 0xFA (R230). -/
def execUnimpFA (s : State) : Outcome := unimpInstr 0xFA#8 s

/-- Opcode byte 0xFB (R230). -/
def execUnimpFB (s : State) : Outcome := unimpInstr 0xFB#8 s

/-- Opcode byte 0xFC (R230). -/
def execUnimpFC (s : State) : Outcome := unimpInstr 0xFC#8 s

/-- Opcode byte 0xFD (R230). -/
def execUnimpFD (s : State) : Outcome := unimpInstr 0xFD#8 s

/-- Opcode byte 0xFE (R230). -/
def execUnimpFE (s : State) : Outcome := unimpInstr 0xFE#8 s

/-- Opcode byte 0xFF (R230). -/
def execUnimpFF (s : State) : Outcome := unimpInstr 0xFF#8 s


end Sys2Proof.Machine
end

