-- ==== Sys2Proof/Machine/Dispatch.lean ====
section
/-!
DEFINITION. Machine/Dispatch.lean: the single dispatch path (R103, R132): one arm for each instruction.
-/

namespace Sys2Proof.Machine

/-- The effect of an instruction whose bytes the fetch has read: the rest of the fetch tick (R130). -/
def exec (i : Instr) (s : State) : Host.Outcome State Fault Refusal :=
  match i with
  | .ldaImm v => Sys2Proof.Machine.execLdaImm v s
  | .ldaZp0 z => Sys2Proof.Machine.execLdaZp0 z s
  | .ldaZpx z => Sys2Proof.Machine.execLdaZpx z s
  | .ldaAbs addr => Sys2Proof.Machine.execLdaAbs addr s
  | .ldaAbx addr => Sys2Proof.Machine.execLdaAbx addr s
  | .ldaAby addr => Sys2Proof.Machine.execLdaAby addr s
  | .ldaIzx z => Sys2Proof.Machine.execLdaIzx z s
  | .ldaIzy z => Sys2Proof.Machine.execLdaIzy z s
  | .ldxImm v => Sys2Proof.Machine.execLdxImm v s
  | .ldxZp0 z => Sys2Proof.Machine.execLdxZp0 z s
  | .ldxZpy z => Sys2Proof.Machine.execLdxZpy z s
  | .ldxAbs addr => Sys2Proof.Machine.execLdxAbs addr s
  | .ldxAby addr => Sys2Proof.Machine.execLdxAby addr s
  | .ldyImm v => Sys2Proof.Machine.execLdyImm v s
  | .ldyZp0 z => Sys2Proof.Machine.execLdyZp0 z s
  | .ldyZpx z => Sys2Proof.Machine.execLdyZpx z s
  | .ldyAbs addr => Sys2Proof.Machine.execLdyAbs addr s
  | .ldyAbx addr => Sys2Proof.Machine.execLdyAbx addr s
  | .staZp0 z => Sys2Proof.Machine.execStaZp0 z s
  | .staZpx z => Sys2Proof.Machine.execStaZpx z s
  | .staAbs addr => Sys2Proof.Machine.execStaAbs addr s
  | .staAbx addr => Sys2Proof.Machine.execStaAbx addr s
  | .staAby addr => Sys2Proof.Machine.execStaAby addr s
  | .staIzx z => Sys2Proof.Machine.execStaIzx z s
  | .staIzy z => Sys2Proof.Machine.execStaIzy z s
  | .stxZp0 z => Sys2Proof.Machine.execStxZp0 z s
  | .stxZpy z => Sys2Proof.Machine.execStxZpy z s
  | .stxAbs addr => Sys2Proof.Machine.execStxAbs addr s
  | .styZp0 z => Sys2Proof.Machine.execStyZp0 z s
  | .styZpx z => Sys2Proof.Machine.execStyZpx z s
  | .styAbs addr => Sys2Proof.Machine.execStyAbs addr s
  | .bcc r => Sys2Proof.Machine.execBcc r s
  | .bcs r => Sys2Proof.Machine.execBcs r s
  | .bne r => Sys2Proof.Machine.execBne r s
  | .beq r => Sys2Proof.Machine.execBeq r s
  | .unimp00 => Sys2Proof.Machine.execUnimp00 s
  | .unimp01 => Sys2Proof.Machine.execUnimp01 s
  | .unimp02 => Sys2Proof.Machine.execUnimp02 s
  | .unimp03 => Sys2Proof.Machine.execUnimp03 s
  | .unimp04 => Sys2Proof.Machine.execUnimp04 s
  | .unimp05 => Sys2Proof.Machine.execUnimp05 s
  | .unimp06 => Sys2Proof.Machine.execUnimp06 s
  | .unimp07 => Sys2Proof.Machine.execUnimp07 s
  | .unimp08 => Sys2Proof.Machine.execUnimp08 s
  | .unimp09 => Sys2Proof.Machine.execUnimp09 s
  | .unimp0A => Sys2Proof.Machine.execUnimp0A s
  | .unimp0B => Sys2Proof.Machine.execUnimp0B s
  | .unimp0C => Sys2Proof.Machine.execUnimp0C s
  | .unimp0D => Sys2Proof.Machine.execUnimp0D s
  | .unimp0E => Sys2Proof.Machine.execUnimp0E s
  | .unimp0F => Sys2Proof.Machine.execUnimp0F s
  | .unimp10 => Sys2Proof.Machine.execUnimp10 s
  | .unimp11 => Sys2Proof.Machine.execUnimp11 s
  | .unimp12 => Sys2Proof.Machine.execUnimp12 s
  | .unimp13 => Sys2Proof.Machine.execUnimp13 s
  | .unimp14 => Sys2Proof.Machine.execUnimp14 s
  | .unimp15 => Sys2Proof.Machine.execUnimp15 s
  | .unimp16 => Sys2Proof.Machine.execUnimp16 s
  | .unimp17 => Sys2Proof.Machine.execUnimp17 s
  | .unimp18 => Sys2Proof.Machine.execUnimp18 s
  | .unimp19 => Sys2Proof.Machine.execUnimp19 s
  | .unimp1A => Sys2Proof.Machine.execUnimp1A s
  | .unimp1B => Sys2Proof.Machine.execUnimp1B s
  | .unimp1C => Sys2Proof.Machine.execUnimp1C s
  | .unimp1D => Sys2Proof.Machine.execUnimp1D s
  | .unimp1E => Sys2Proof.Machine.execUnimp1E s
  | .unimp1F => Sys2Proof.Machine.execUnimp1F s
  | .unimp20 => Sys2Proof.Machine.execUnimp20 s
  | .unimp21 => Sys2Proof.Machine.execUnimp21 s
  | .unimp22 => Sys2Proof.Machine.execUnimp22 s
  | .unimp23 => Sys2Proof.Machine.execUnimp23 s
  | .unimp24 => Sys2Proof.Machine.execUnimp24 s
  | .unimp25 => Sys2Proof.Machine.execUnimp25 s
  | .unimp26 => Sys2Proof.Machine.execUnimp26 s
  | .unimp27 => Sys2Proof.Machine.execUnimp27 s
  | .unimp28 => Sys2Proof.Machine.execUnimp28 s
  | .unimp29 => Sys2Proof.Machine.execUnimp29 s
  | .unimp2A => Sys2Proof.Machine.execUnimp2A s
  | .unimp2B => Sys2Proof.Machine.execUnimp2B s
  | .unimp2C => Sys2Proof.Machine.execUnimp2C s
  | .unimp2D => Sys2Proof.Machine.execUnimp2D s
  | .unimp2E => Sys2Proof.Machine.execUnimp2E s
  | .unimp2F => Sys2Proof.Machine.execUnimp2F s
  | .unimp30 => Sys2Proof.Machine.execUnimp30 s
  | .unimp31 => Sys2Proof.Machine.execUnimp31 s
  | .unimp32 => Sys2Proof.Machine.execUnimp32 s
  | .unimp33 => Sys2Proof.Machine.execUnimp33 s
  | .unimp34 => Sys2Proof.Machine.execUnimp34 s
  | .unimp35 => Sys2Proof.Machine.execUnimp35 s
  | .unimp36 => Sys2Proof.Machine.execUnimp36 s
  | .unimp37 => Sys2Proof.Machine.execUnimp37 s
  | .unimp38 => Sys2Proof.Machine.execUnimp38 s
  | .unimp39 => Sys2Proof.Machine.execUnimp39 s
  | .unimp3A => Sys2Proof.Machine.execUnimp3A s
  | .unimp3B => Sys2Proof.Machine.execUnimp3B s
  | .unimp3C => Sys2Proof.Machine.execUnimp3C s
  | .unimp3D => Sys2Proof.Machine.execUnimp3D s
  | .unimp3E => Sys2Proof.Machine.execUnimp3E s
  | .unimp3F => Sys2Proof.Machine.execUnimp3F s
  | .unimp40 => Sys2Proof.Machine.execUnimp40 s
  | .unimp41 => Sys2Proof.Machine.execUnimp41 s
  | .unimp42 => Sys2Proof.Machine.execUnimp42 s
  | .unimp43 => Sys2Proof.Machine.execUnimp43 s
  | .unimp44 => Sys2Proof.Machine.execUnimp44 s
  | .unimp45 => Sys2Proof.Machine.execUnimp45 s
  | .unimp46 => Sys2Proof.Machine.execUnimp46 s
  | .unimp47 => Sys2Proof.Machine.execUnimp47 s
  | .unimp48 => Sys2Proof.Machine.execUnimp48 s
  | .unimp49 => Sys2Proof.Machine.execUnimp49 s
  | .unimp4A => Sys2Proof.Machine.execUnimp4A s
  | .unimp4B => Sys2Proof.Machine.execUnimp4B s
  | .unimp4C => Sys2Proof.Machine.execUnimp4C s
  | .unimp4D => Sys2Proof.Machine.execUnimp4D s
  | .unimp4E => Sys2Proof.Machine.execUnimp4E s
  | .unimp4F => Sys2Proof.Machine.execUnimp4F s
  | .unimp50 => Sys2Proof.Machine.execUnimp50 s
  | .unimp51 => Sys2Proof.Machine.execUnimp51 s
  | .unimp52 => Sys2Proof.Machine.execUnimp52 s
  | .unimp53 => Sys2Proof.Machine.execUnimp53 s
  | .unimp54 => Sys2Proof.Machine.execUnimp54 s
  | .unimp55 => Sys2Proof.Machine.execUnimp55 s
  | .unimp56 => Sys2Proof.Machine.execUnimp56 s
  | .unimp57 => Sys2Proof.Machine.execUnimp57 s
  | .unimp58 => Sys2Proof.Machine.execUnimp58 s
  | .unimp59 => Sys2Proof.Machine.execUnimp59 s
  | .unimp5A => Sys2Proof.Machine.execUnimp5A s
  | .unimp5B => Sys2Proof.Machine.execUnimp5B s
  | .unimp5C => Sys2Proof.Machine.execUnimp5C s
  | .unimp5D => Sys2Proof.Machine.execUnimp5D s
  | .unimp5E => Sys2Proof.Machine.execUnimp5E s
  | .unimp5F => Sys2Proof.Machine.execUnimp5F s
  | .unimp60 => Sys2Proof.Machine.execUnimp60 s
  | .unimp61 => Sys2Proof.Machine.execUnimp61 s
  | .unimp62 => Sys2Proof.Machine.execUnimp62 s
  | .unimp63 => Sys2Proof.Machine.execUnimp63 s
  | .unimp64 => Sys2Proof.Machine.execUnimp64 s
  | .unimp65 => Sys2Proof.Machine.execUnimp65 s
  | .unimp66 => Sys2Proof.Machine.execUnimp66 s
  | .unimp67 => Sys2Proof.Machine.execUnimp67 s
  | .unimp68 => Sys2Proof.Machine.execUnimp68 s
  | .unimp69 => Sys2Proof.Machine.execUnimp69 s
  | .unimp6A => Sys2Proof.Machine.execUnimp6A s
  | .unimp6B => Sys2Proof.Machine.execUnimp6B s
  | .unimp6C => Sys2Proof.Machine.execUnimp6C s
  | .unimp6D => Sys2Proof.Machine.execUnimp6D s
  | .unimp6E => Sys2Proof.Machine.execUnimp6E s
  | .unimp6F => Sys2Proof.Machine.execUnimp6F s
  | .unimp70 => Sys2Proof.Machine.execUnimp70 s
  | .unimp71 => Sys2Proof.Machine.execUnimp71 s
  | .unimp72 => Sys2Proof.Machine.execUnimp72 s
  | .unimp73 => Sys2Proof.Machine.execUnimp73 s
  | .unimp74 => Sys2Proof.Machine.execUnimp74 s
  | .unimp75 => Sys2Proof.Machine.execUnimp75 s
  | .unimp76 => Sys2Proof.Machine.execUnimp76 s
  | .unimp77 => Sys2Proof.Machine.execUnimp77 s
  | .unimp78 => Sys2Proof.Machine.execUnimp78 s
  | .unimp79 => Sys2Proof.Machine.execUnimp79 s
  | .unimp7A => Sys2Proof.Machine.execUnimp7A s
  | .unimp7B => Sys2Proof.Machine.execUnimp7B s
  | .unimp7C => Sys2Proof.Machine.execUnimp7C s
  | .unimp7D => Sys2Proof.Machine.execUnimp7D s
  | .unimp7E => Sys2Proof.Machine.execUnimp7E s
  | .unimp7F => Sys2Proof.Machine.execUnimp7F s
  | .unimp80 => Sys2Proof.Machine.execUnimp80 s
  | .unimp82 => Sys2Proof.Machine.execUnimp82 s
  | .unimp83 => Sys2Proof.Machine.execUnimp83 s
  | .unimp87 => Sys2Proof.Machine.execUnimp87 s
  | .unimp88 => Sys2Proof.Machine.execUnimp88 s
  | .unimp89 => Sys2Proof.Machine.execUnimp89 s
  | .unimp8A => Sys2Proof.Machine.execUnimp8A s
  | .unimp8B => Sys2Proof.Machine.execUnimp8B s
  | .unimp8F => Sys2Proof.Machine.execUnimp8F s
  | .unimp92 => Sys2Proof.Machine.execUnimp92 s
  | .unimp93 => Sys2Proof.Machine.execUnimp93 s
  | .unimp97 => Sys2Proof.Machine.execUnimp97 s
  | .unimp98 => Sys2Proof.Machine.execUnimp98 s
  | .unimp9A => Sys2Proof.Machine.execUnimp9A s
  | .unimp9B => Sys2Proof.Machine.execUnimp9B s
  | .unimp9C => Sys2Proof.Machine.execUnimp9C s
  | .unimp9E => Sys2Proof.Machine.execUnimp9E s
  | .unimp9F => Sys2Proof.Machine.execUnimp9F s
  | .unimpA3 => Sys2Proof.Machine.execUnimpA3 s
  | .unimpA7 => Sys2Proof.Machine.execUnimpA7 s
  | .unimpA8 => Sys2Proof.Machine.execUnimpA8 s
  | .unimpAA => Sys2Proof.Machine.execUnimpAA s
  | .unimpAB => Sys2Proof.Machine.execUnimpAB s
  | .unimpAF => Sys2Proof.Machine.execUnimpAF s
  | .unimpB2 => Sys2Proof.Machine.execUnimpB2 s
  | .unimpB3 => Sys2Proof.Machine.execUnimpB3 s
  | .unimpB7 => Sys2Proof.Machine.execUnimpB7 s
  | .unimpB8 => Sys2Proof.Machine.execUnimpB8 s
  | .unimpBA => Sys2Proof.Machine.execUnimpBA s
  | .unimpBB => Sys2Proof.Machine.execUnimpBB s
  | .unimpBF => Sys2Proof.Machine.execUnimpBF s
  | .unimpC0 => Sys2Proof.Machine.execUnimpC0 s
  | .unimpC1 => Sys2Proof.Machine.execUnimpC1 s
  | .unimpC2 => Sys2Proof.Machine.execUnimpC2 s
  | .unimpC3 => Sys2Proof.Machine.execUnimpC3 s
  | .unimpC4 => Sys2Proof.Machine.execUnimpC4 s
  | .unimpC5 => Sys2Proof.Machine.execUnimpC5 s
  | .unimpC6 => Sys2Proof.Machine.execUnimpC6 s
  | .unimpC7 => Sys2Proof.Machine.execUnimpC7 s
  | .unimpC8 => Sys2Proof.Machine.execUnimpC8 s
  | .unimpC9 => Sys2Proof.Machine.execUnimpC9 s
  | .unimpCA => Sys2Proof.Machine.execUnimpCA s
  | .unimpCB => Sys2Proof.Machine.execUnimpCB s
  | .unimpCC => Sys2Proof.Machine.execUnimpCC s
  | .unimpCD => Sys2Proof.Machine.execUnimpCD s
  | .unimpCE => Sys2Proof.Machine.execUnimpCE s
  | .unimpCF => Sys2Proof.Machine.execUnimpCF s
  | .unimpD1 => Sys2Proof.Machine.execUnimpD1 s
  | .unimpD2 => Sys2Proof.Machine.execUnimpD2 s
  | .unimpD3 => Sys2Proof.Machine.execUnimpD3 s
  | .unimpD4 => Sys2Proof.Machine.execUnimpD4 s
  | .unimpD5 => Sys2Proof.Machine.execUnimpD5 s
  | .unimpD6 => Sys2Proof.Machine.execUnimpD6 s
  | .unimpD7 => Sys2Proof.Machine.execUnimpD7 s
  | .unimpD8 => Sys2Proof.Machine.execUnimpD8 s
  | .unimpD9 => Sys2Proof.Machine.execUnimpD9 s
  | .unimpDA => Sys2Proof.Machine.execUnimpDA s
  | .unimpDB => Sys2Proof.Machine.execUnimpDB s
  | .unimpDC => Sys2Proof.Machine.execUnimpDC s
  | .unimpDD => Sys2Proof.Machine.execUnimpDD s
  | .unimpDE => Sys2Proof.Machine.execUnimpDE s
  | .unimpDF => Sys2Proof.Machine.execUnimpDF s
  | .unimpE0 => Sys2Proof.Machine.execUnimpE0 s
  | .unimpE1 => Sys2Proof.Machine.execUnimpE1 s
  | .unimpE2 => Sys2Proof.Machine.execUnimpE2 s
  | .unimpE3 => Sys2Proof.Machine.execUnimpE3 s
  | .unimpE4 => Sys2Proof.Machine.execUnimpE4 s
  | .unimpE5 => Sys2Proof.Machine.execUnimpE5 s
  | .unimpE6 => Sys2Proof.Machine.execUnimpE6 s
  | .unimpE7 => Sys2Proof.Machine.execUnimpE7 s
  | .unimpE8 => Sys2Proof.Machine.execUnimpE8 s
  | .unimpE9 => Sys2Proof.Machine.execUnimpE9 s
  | .unimpEA => Sys2Proof.Machine.execUnimpEA s
  | .unimpEB => Sys2Proof.Machine.execUnimpEB s
  | .unimpEC => Sys2Proof.Machine.execUnimpEC s
  | .unimpED => Sys2Proof.Machine.execUnimpED s
  | .unimpEE => Sys2Proof.Machine.execUnimpEE s
  | .unimpEF => Sys2Proof.Machine.execUnimpEF s
  | .unimpF1 => Sys2Proof.Machine.execUnimpF1 s
  | .unimpF2 => Sys2Proof.Machine.execUnimpF2 s
  | .unimpF3 => Sys2Proof.Machine.execUnimpF3 s
  | .unimpF4 => Sys2Proof.Machine.execUnimpF4 s
  | .unimpF5 => Sys2Proof.Machine.execUnimpF5 s
  | .unimpF6 => Sys2Proof.Machine.execUnimpF6 s
  | .unimpF7 => Sys2Proof.Machine.execUnimpF7 s
  | .unimpF8 => Sys2Proof.Machine.execUnimpF8 s
  | .unimpF9 => Sys2Proof.Machine.execUnimpF9 s
  | .unimpFA => Sys2Proof.Machine.execUnimpFA s
  | .unimpFB => Sys2Proof.Machine.execUnimpFB s
  | .unimpFC => Sys2Proof.Machine.execUnimpFC s
  | .unimpFD => Sys2Proof.Machine.execUnimpFD s
  | .unimpFE => Sys2Proof.Machine.execUnimpFE s
  | .unimpFF => Sys2Proof.Machine.execUnimpFF s

end Sys2Proof.Machine
end

