-- ==== Sys2Proof/Machine/Dma.lean ====
section
/-!
DEFINITION. Machine/Dma.lean: the DMA controller's step (46_system_bus R245-R251).
-/

namespace Sys2Proof.Machine

/-- The source address of a read step, `dma_page : dma_cursor` (R246). -/
def dmaSource (s : State) : Word := wordOf s.dmaPage s.dmaCursor

/-- The read half of a pair: one byte through the full bus decode into the staging register (R245, R246). -/
def dmaReadStep (s : State) : State :=
  let r := memRead (dmaSource s) s
  { r.2 with dmaStaging := r.1, dmaPhase := .write }

/-- The write half: the staged byte to the picture unit's OAM port, the cursor advanced, the transfer ended when the
cursor wraps to 0x00 (R245, R247-R249). -/
def dmaWriteStep (s : State) : State :=
  let s := pictureCall (.oamDataWrite s.dmaStaging) s
  { s with dmaCursor := s.dmaCursor + 1#8,
           dmaActive := if s.dmaCursor + 1#8 = 0x00#8 then false else s.dmaActive,
           dmaPhase := .read }

/-- `dma_execute()` (R245, D15). -/
def dmaExecute (s : State) : State :=
  match s.dmaPhase with
  | .read => dmaReadStep s
  | .write => dmaWriteStep s

end Sys2Proof.Machine
end

