-- ==== Sys2Proof/Machine/Fetch.lean ====
section
/-!
DEFINITION. Machine/Fetch.lean: the instruction fetch (40_cpu_tick_engine R131, 30_encoding R100-R103), and the
placing of an instruction where the next step fetches it.
-/

namespace Sys2Proof.Machine

/-- The instruction at PC and the state after the bus reads of its bytes: the opcode byte, then as many operand bytes
as its mode has, at consecutive addresses modulo 2^16 (R100, R108, R111, R131). PC itself is advanced by the
instruction's own meaning (`startInstr`, log 15). -/
def fetch (s : State) : Instr × State :=
  let r0 := memRead s.pc s
  match operandCount r0.1 with
  | 0 => (instrOf r0.1 0#8 0#8, r0.2)
  | 1 =>
    let r1 := memRead (s.pc + 1#16) r0.2
    (instrOf r0.1 r1.1 0#8, r1.2)
  | _ =>
    let r1 := memRead (s.pc + 1#16) r0.2
    let r2 := memRead (s.pc + 2#16) r1.2
    (instrOf r0.1 r1.1 r2.1, r2.2)

/-- `n` bus reads at consecutive addresses from `a`, one after another: the bytes, and the state after them. -/
def readBytes : Nat → Word → State → List Byte × State
  | 0, _, s => ([], s)
  | n + 1, a, s =>
    ((memRead a s).1 :: (readBytes n (a + 1#16) (memRead a s).2).1, (readBytes n (a + 1#16) (memRead a s).2).2)

/-! ## Placing an instruction (the host's `withFetchWord`, log 16) -/

/-- Can a byte be placed at this address: a RAM cell, or a PRG byte of a loaded cartridge? -/
def placeable (a : Word) (s : State) : Bool :=
  match s.cart with
  | some c => decide (a ≤ 0x1FFF#16) || (decide (0x8000#16 ≤ a) && prgLength c != 0)
  | none => decide (a ≤ 0x1FFF#16)

/-- Place a byte at such an address, by changing the cell behind it. -/
def placeByte (a : Word) (v : Byte) (s : State) : State :=
  if a ≤ 0x1FFF#16 then writeRam (ramCell a) v s
  else
    match s.cart with
    | some c =>
      { s with cart := some { c with prg := cellsWrite .rom ((a &&& 0x7FFF#16).toNat % prgLength c) v c.prg } }
    | none => s

/-- Place bytes at consecutive addresses. -/
def placeBytes (a : Word) : List Byte → State → State
  | [], s => s
  | v :: rest, s => placeBytes (a + 1#16) rest (placeByte a v s)

/-- The state in which the next step is a fetch tick: no driver call pending, a CPU slot, no transfer, no count-down.
A PC at which the longest instruction cannot be placed is moved to 0x0000. -/
def readyToFetch (s : State) : State :=
  { s with pending := [],
           cycles := 0#8,
           dmaActive := false,
           clockCount := if s.clockCount % 3 = 0 then s.clockCount else 0,
           pc := if placeable s.pc s && placeable (s.pc + 1#16) s && placeable (s.pc + 2#16) s then s.pc else 0x0000#16 }

end Sys2Proof.Machine
end

