-- ==== Sys2Proof/Machine/Tick.lean ====
section
/-!
DEFINITION. Machine/Tick.lean: `cpu.tick()` (40_cpu_tick_engine R130), `bus.clock()` (46_system_bus R240), and the calls
of the environment (60_exceptions R302, 70_reset_and_hazards R341). Machine/Step.lean calls `advance`.
-/

namespace Sys2Proof.Machine

/-- One more CPU tick (R137). -/
def countTick (s : State) : State := { s with totalClocks := s.totalClocks + 1 }

/-- The fetch tick: fetch, then the instruction's meaning (R130, R131, R132). -/
def fetchTick (s : State) : Outcome := exec (fetch s).1 (fetch s).2

/-- `cpu.tick()`: a fetch tick when the remaining-cycles counter is zero, else a count-down tick (R130, R136, R137,
D7). -/
def cpuTick (s : State) : Outcome :=
  if s.cycles = 0#8 then onNext countTick (fetchTick s)
  else .next (countTick (setCycles (s.cycles - 1#8) s))

/-- The CPU slot: a DMA step if a transfer is active when the slot begins, else a CPU tick (R240, R244, R250). -/
def cpuSlot (s : State) : Outcome :=
  if s.dmaActive then .next (dmaExecute s) else cpuTick s

/-- What follows the CPU slot in one system clock: the sound unit on even counts, then the counter (R240, R243). -/
def clockTail (s : State) : State :=
  let s := if s.clockCount % 2 = 0 then soundClock s else s
  { s with clockCount := s.clockCount + 1 }

/-- `bus.clock()`: the picture unit always, the CPU slot on counts divisible by 3, the sound unit on counts divisible
by 2, in that order; then the counter (R240-R243). -/
def busClock (s : State) : Outcome :=
  let s := pictureClock s
  if s.clockCount % 3 = 0 then onNext clockTail (cpuSlot s) else .next (clockTail s)

/-- The reply of a driver call. -/
def setReply (r : Reply) (s : State) : State := { s with reply := r }

/-- `cartridge.load(bytes)`: on success the cartridge is replaced, on failure nothing of it changes; the driver gets
the answer (R278, R279, R337). -/
def driverLoad (im : RomImage) (s : State) : State :=
  match loadImage im with
  | .ok c => setReply .loaded { s with cart := some c }
  | .error f => setReply (.loadFailed f) s

/-- The driver's own `bus.read` (R341): as `MemRead`, and the run is marked (93 U20, log 11). -/
def driverRead (a : Word) (s : State) : State :=
  setReply (.data (memRead a s).1) { (memRead a s).2 with outOfContract := true }

/-- The driver's own `bus.write` (R257, R341): as `MemWrite`, and the run is marked (93 U20, log 11). -/
def driverWrite (a : Word) (v : Byte) (s : State) : State := { memWrite a v s with outOfContract := true }

/-- The picture unit reads the cartridge (R12, R290): the answer goes into its history (log 3, 8). DESIGN CHOICE,
unsafe: with no cartridge loaded the answer is "not claimed" (log 18). -/
def picturePpuRead (a : PicAddr) (s : State) : State :=
  pictureCall (.ppuRead a (s.cart.bind fun c => cartridgePpuRead c a)) s

/-- The picture unit writes the cartridge (R12, R291): the answer goes into its history (log 3, 8). DESIGN CHOICE,
unsafe: with no cartridge loaded the answer is "not claimed" and nothing is written (log 18). -/
def picturePpuWrite (a : PicAddr) (v : Byte) (s : State) : State :=
  match s.cart with
  | some c => pictureCall (.ppuWrite a v (cartridgePpuWrite c a v).2) { s with cart := some (cartridgePpuWrite c a v).1 }
  | none => pictureCall (.ppuWrite a v false) s

/-- The picture unit asks for the mirroring mode (R12, R293). -/
def pictureMirrorMode (s : State) : State :=
  pictureCall (.mirrorMode (s.cart.map cartridgeMirrorMode)) s

/-- Call the cartridge, if there is one (R294: "forwards to the mapper if present"). -/
def withCart (f : Cartridge → Cartridge) (s : State) : State := { s with cart := s.cart.map f }

/-- `irq_state()` of the mapper, false where there is none (R285, log 13). -/
def driverIrqState (s : State) : State :=
  setReply (.irqLine ((s.cart.map cartridgeIrqState).getD false)) s

/-- One call of the environment, handled to completion when it is made (R302, R308). -/
def runCall (c : EnvCall) (s : State) : Outcome :=
  match c with
  | .clock => busClock s
  | .reset => .next (busReset s)
  | .load im => .next (driverLoad im s)
  | .cartReset => .next (withCart cartridgeReset s)
  | .irq => .next (cpuIrq s)
  | .nmi => .next (cpuNmi s)
  | .busRead a => .next (driverRead a s)
  | .busWrite a v => .next (driverWrite a v s)
  | .ppuRead a => .next (picturePpuRead a s)
  | .ppuWrite a v => .next (picturePpuWrite a v s)
  | .mirrorMode => .next (pictureMirrorMode s)
  | .scanline => .next (withCart cartridgeScanline s)
  | .irqState => .next (driverIrqState s)
  | .irqClear => .next (withCart cartridgeIrqClear s)

/-- One step of the machine: the oldest pending call, or, with none pending, one system clock (log 1). -/
def advance (s : State) : Outcome :=
  match s.pending with
  | [] => busClock s
  | c :: rest => runCall c { s with pending := rest }

end Sys2Proof.Machine
end

