-- ==== Sys2Proof/Machine/Step.lean ====
section
/-!
DEFINITION. Machine/Step.lean: the machine's step, and where it fetches.
-/

namespace Sys2Proof.Machine

/-- One step: the oldest pending call of the environment, or one `bus.clock()` (R3, R240; log 1). -/
def step (s : State) : Host.Outcome State Fault Refusal := advance s

/-- The state whose very next step runs the instruction with the bits `w` (numbered as spec/opcode_table.json numbers
them, `nbits` given, the rest 0), as the first instruction it fetches: its bytes are placed at PC, and the step is a
fetch tick (log 16). -/
def State.withFetchWord (s : State) (nbits w : Nat) : State :=
  placeBytes (readyToFetch s).pc (tableBytes nbits w) (readyToFetch s)

end Sys2Proof.Machine
end

