-- ==== Sys2Proof/Machine/Reference.lean ====
section
/-!
DEFINITION. Machine/Reference.lean: the fetch tick as the spec's own pseudocode writes it (40_cpu_tick_engine R130):
opcode read, descriptor lookup, resolver at PC, handler, cost. The machine does not run this text; the obligations
state that its fetch, decode and dispatch come to the same.
-/

namespace Sys2Proof.Machine

/-- The handler of a descriptor, called with the resolver's result (R132, R170, R200, R220). -/
def runHandler (h : Handler) (addr : Word) (s : State) : State :=
  match h with
  | .load r => loadReg r (memRead addr s).1 (memRead addr s).2
  | .store r => memWrite addr (getReg r s) s
  | .branch c => branchTo c addr s
  | .none => s

/-- The penalty added to the base cost, from the flags the tick has written (R134, R135). -/
def descriptorPenalty (d : Descriptor) (s : State) : Byte :=
  match d.handler with
  | .branch _ => branchPenalty s.branchTaken s.pageCrossed
  | _ => indexPenalty d.mode s.pageCrossed

/-- The fetch of the opcode byte: the transient flags cleared, the byte at PC read, PC advanced (R130, R131). -/
def referenceFetch (s : State) : Byte × State :=
  let r := memRead s.pc { s with branchTaken := false, pageCrossed := false }
  (r.1, { r.2 with opcode := r.1, pc := r.2.pc + 1#16 })

/-- The fetch arm of `cpu.tick()` after the opcode fetch (R130). -/
def referenceExecute (d : Descriptor) (s : State) : State :=
  let res := resolveAt d.mode s
  let s := runHandler d.handler res.addr (setPageCrossed res.crossed res.state)
  setCycles (d.base + descriptorPenalty d s) s

/-- The fetch arm of `cpu.tick()` (R130), `total_clocks` not yet counted. -/
def referenceFetchTick (s : State) : State :=
  referenceExecute (DESC (referenceFetch s).1) (referenceFetch s).2

end Sys2Proof.Machine
end

