-- ==== Sys2Proof/Safety.lean ====
section
/-!
DEFINITION. Safety.lean: what the spec promises of every state a run reaches, as predicates on a state.
-/

namespace Sys2Proof.Machine

/-- The images the driver has still to load are in canonical form. -/
def pendingWf (s : State) : Bool :=
  s.pending.all fun c =>
    match c with
    | .load im => imageWf im
    | _ => true

/-- THE FORM OF MEMORY: RAM has its 2048 cells, a cartridge's arrays have their lengths (R40, R48), every list is in
canonical form, and so are the images still to be loaded. -/
def memoryWf (s : State) : Bool :=
  cellsWf .ram ramSize s.ram && (s.cart.map cartWf).getD true && pendingWf s

/-- "Unused[always set]" (R31, R34). -/
def unusedSet (s : State) : Bool := getFlag .unused s.p

/-- The DMA controller at rest is at the start of a page and of a pair (R45, R253). -/
def dmaIdleAtStart (s : State) : Bool :=
  s.dmaActive || (s.dmaCursor == 0x00#8 && s.dmaPhase == .read)

/-- The counter never exceeds the largest value ever written to it (R36). -/
def cyclesBounded (s : State) : Bool := decide (s.cycles ≤ 8#8)

/-- From reset onward Carry, Decimal, BreakSignal and Overflow are 0 (R26, R29, R30, R32). -/
def untouchedFlagsClear (s : State) : Bool :=
  !getFlag .carry s.p && !getFlag .decimal s.p && !getFlag .breakSignal s.p && !getFlag .overflow s.p

/-- The driver keeps to the calls the source describes: no `bus.read` or `bus.write` of its own made or pending (R341,
D43). -/
def withinContract (s : State) : Bool :=
  !s.outOfContract &&
    s.pending.all fun c =>
      match c with
      | .busRead _ => false
      | .busWrite _ _ => false
      | _ => true

/-- The last opcode fetched has no descriptor: what a diagnostic can see of an unimplemented opcode (R232). -/
def ranUnimplemented (s : State) : Bool := isUnimplemented s.opcode

end Sys2Proof.Machine
end

