-- ==== Sys2Proof/WellFormed.lean ====
section
/-!
DEFINITION. WellFormed.lean: which byte lists are exactly one instruction, and which instructions are well formed.
The operands of `Instr` have the widths of the encoding's fields and every value of every field is legal (R100-R107),
so an instruction is well formed as soon as its bytes are; the check that can refuse is the one on bytes.
-/

namespace Sys2Proof

/-- The byte list is one whole instruction and nothing more: an opcode byte and as many operand bytes as its mode has
(R100, R108). -/
def wellFormedBytes : List Byte → Bool
  | [] => false
  | op :: operands => operands.length == operandCount op

/-- The instruction's bytes are one whole instruction, and its descriptor is the one its opcode byte selects (R103). -/
def Instr.wellFormed (i : Instr) : Bool := wellFormedBytes (encode i) && DESC i.opcode == i.descriptor

end Sys2Proof
end

