-- ==== Sys2Proof/Certificates/Slice0/Obligations.lean ====
section
/-!
DEFINITION. Certificates/Slice0/Obligations.lean: the statements for the provers, each from the rules of spec/ its
docstring cites, and the words they are written in. Opcode bytes and base costs are the spec's own adoption
([from general knowledge], D9; log 14), so a statement that names them is 'derived'.
-/

namespace Sys2Proof.Machine

/-! ## Words the statements are written in -/

/-- The index added to the base carries out of the low byte: the rule's `lo + X >= 0x100` (R158, R163). -/
def carries (base : Word) (index : Byte) : Bool := decide (0x100 ≤ (lowByte base).toNat + index.toNat)

/-- A base cost, one more when the index carries into the page (R134). -/
def indexedCost (base : Byte) (addr : Word) (index : Byte) : Byte := if carries addr index then base + 1#8 else base

/-- The pointer of IZX and IZY: low byte at page-zero address `p`, high byte at `(p + 1) mod 2^8` (R161, R162). -/
def pointerAt (p : Byte) (s : State) : Word := wordOf (memRead (zext (p + 1#8)) s).1 (memRead (zext p) s).1

/-- The instruction completes with `m.1` in register `r`, Z and N from that byte, PC `len` bytes on, the given cost,
`opcode` its opcode byte, and the collaborators as the data read `m` left them. -/
def LoadLeaves (i : Instr) (r : Reg) (m : Byte × State) (len : Word) (cost : Byte) (crossed : Bool) (s : State) : Prop :=
  ∃ t, exec i s = .next t ∧ getReg r t = m.1 ∧ getFlag .zero t.p = (m.1 == 0#8) ∧
    getFlag .negative t.p = m.1.getLsbD 7 ∧ t.pc = s.pc + len ∧ t.cycles = cost ∧ t.opcode = i.opcode ∧
    t.branchTaken = false ∧ t.pageCrossed = crossed ∧ t.picture = m.2.picture ∧ t.sound = m.2.sound

/-- The instruction completes with exactly the bus write of register `r` to `addr` made, PC `len` bytes on, the given
cost, and P kept. -/
def StoreLeaves (i : Instr) (r : Reg) (addr : Word) (len : Word) (cost : Byte) (crossed : Bool) (s : State) : Prop :=
  ∃ t, exec i s = .next t ∧ t.ram = (memWrite addr (getReg r s) s).ram ∧
    t.picture = (memWrite addr (getReg r s) s).picture ∧ t.sound = (memWrite addr (getReg r s) s).sound ∧
    t.dmaPage = (memWrite addr (getReg r s) s).dmaPage ∧ t.dmaActive = (memWrite addr (getReg r s) s).dmaActive ∧
    t.dmaPhase = (memWrite addr (getReg r s) s).dmaPhase ∧ t.p = s.p ∧ t.pc = s.pc + len ∧ t.cycles = cost ∧
    t.opcode = i.opcode ∧ t.branchTaken = false ∧ t.pageCrossed = crossed

/-- The branch completes at the target when taken and behind itself when not, with P kept. -/
def BranchLeaves (i : Instr) (r : Byte) (taken : Bool) (s : State) : Prop :=
  ∃ t, exec i s = .next t ∧ t.pc = (if taken then s.pc + 2#16 + sext r else s.pc + 2#16) ∧ t.branchTaken = taken ∧
    t.p = s.p ∧ t.opcode = i.opcode

/-- The registers, flags and control state that no admitted instruction touches, and the driver's side. -/
def KeepsControl (s t : State) : Prop :=
  t.sp = s.sp ∧ t.totalClocks = s.totalClocks ∧ t.cart = s.cart ∧ t.clockCount = s.clockCount ∧
    t.dmaCursor = s.dmaCursor ∧ t.dmaStaging = s.dmaStaging ∧ t.pending = s.pending ∧ t.reply = s.reply ∧
    t.outOfContract = s.outOfContract ∧ t.picture.ticks = s.picture.ticks ∧ t.sound.ticks = s.sound.ticks

/-- The DMA fields a store to the trigger can write. -/
def KeepsDma (s t : State) : Prop :=
  t.dmaPage = s.dmaPage ∧ t.dmaActive = s.dmaActive ∧ t.dmaPhase = s.dmaPhase

/-- The address is not in a collaborator's register window: what it reads is RAM, PRG, or the 0x00 of no owner (R66). -/
def isMemory (a : Word) : Bool := !(decide (0x2000#16 ≤ a) && decide (a ≤ 0x3FFF#16)) && !inSoundWindow a

/-- Every byte of memory reads as before. -/
def SameMemory (s t : State) : Prop := ∀ a : Word, isMemory a = true → (memRead a t).1 = (memRead a s).1

/-- The effective address of a load or store: the resolver's, in the state the meaning resolves in. -/
def effectiveAddress (i : Instr) (s : State) : Word :=
  (resolve (operandOf i) (startInstr i.opcode (instrLength (operandOf i)) s)).addr

/-- The same RAM cell is behind both addresses (R69). -/
def sameRamCell (a b : Word) : Bool := decide (a ≤ 0x1FFF#16) && decide (b ≤ 0x1FFF#16) && ramCell a == ramCell b

/-- `n` CPU ticks, one after another. -/
def cpuTicks : Nat → State → Outcome
  | 0, s => .next s
  | n + 1, s =>
    match cpuTick s with
    | .next t => cpuTicks n t
    | .fault r => .fault r
    | .refused r => .refused r

/-- The bytes handed to `oam_data_write`, in the order of the calls. -/
def oamBytes (u : PictureUnit) : List Byte :=
  (u.calls.reverse).filterMap fun c =>
    match c.2 with
    | .oamDataWrite v => some v
    | _ => none

end Sys2Proof.Machine

open Sys2Proof Sys2Proof.Machine

/-! ## Encoding -/

/-- Words written out from R106 decode to their instructions (R101, R102, R106, R107). Tier 1. -/
def Obligations.WrittenWordsDecode : Prop :=
  decode [0xA9#8, 0x80#8] = .ok (.ldaImm 0x80#8, []) ∧
  decode [0xBD#8, 0xFF#8, 0x02#8] = .ok (.ldaAbx 0x02FF#16, []) ∧
  decode [0xB6#8, 0x80#8, 0xEA#8] = .ok (.ldxZpy 0x80#8, [0xEA#8]) ∧
  decode [0xBC#8, 0x80#8, 0x07#8] = .ok (.ldyAbx 0x0780#16, []) ∧
  decode [0x8D#8, 0x14#8, 0x40#8] = .ok (.staAbs 0x4014#16, []) ∧
  decode [0x96#8, 0x80#8] = .ok (.stxZpy 0x80#8, []) ∧
  decode [0x94#8, 0x10#8] = .ok (.styZpx 0x10#8, []) ∧
  decode [0xD0#8, 0xFB#8] = .ok (.bne 0xFB#8, []) ∧
  decode [0x4C#8, 0xA9#8, 0x80#8] = .ok (.unimp4C, [0xA9#8, 0x80#8])

/-- Decoding an encoded instruction, whatever follows it, gives it back with what follows (R100-R108). Tier 3. -/
def Obligations.DecodeOfEncode : Prop :=
  ∀ (i : Instr) (rest : List Byte), decode (encode i ++ rest) = .ok (i, rest)

/-- A byte list that decodes is the encoding of the instruction read from it, followed by the rest (R100-R108): no two
byte strings share an instruction. Tier 2. -/
def Obligations.EncodeOfDecode : Prop :=
  ∀ (bs rest : List Byte) (i : Instr), decode bs = .ok (i, rest) → bs = encode i ++ rest

/-- Every byte list at least as long as its first byte's instruction decodes (R107, R108: there is no illegal opcode).
Tier 2. -/
def Obligations.EveryOpcodeDecodes : Prop :=
  ∀ (op : Byte) (tail : List Byte), operandCount op ≤ tail.length →
    ∃ i rest, decode (op :: tail) = .ok (i, rest) ∧ i.opcode = op ∧ i.wellFormed = true

/-! ## The step -/

/-- A STEP RUNS THE DECODED INSTRUCTION: with no call pending, in a CPU slot, no transfer active and the count-down
at zero, if the bytes read at PC (after the picture unit's clock of this system clock, R242) decode to `i`, the step is
`exec` of `i` in the state those reads leave, then one more on `total_clocks`, then the rest of the system clock
(R130, R131, R137, R240). Tier 1. -/
def Obligations.StepRunsDecodedInstruction : Prop :=
  ∀ (s t : State) (n : Nat) (bs : List Byte) (i : Instr),
    s.pending = [] → s.clockCount % 3 = 0 → s.dmaActive = false → s.cycles = 0#8 →
    readBytes n s.pc (pictureClock s) = (bs, t) → decode bs = .ok (i, []) →
    i.wellFormed = true ∧ ∃ u, exec i t = .next u ∧ step s = .next (clockTail (countTick u))

/-- The machine's fetch tick (bytes read, decoded, dispatched to a meaning) comes to the spec's own pseudocode of it:
opcode read, descriptor looked up, resolver run at PC, handler called, cost written (R130-R135, R150-R162, R170, R200,
R220, R230). Tier 2. -/
def Obligations.TickMatchesReference : Prop :=
  ∀ s : State, s.cycles = 0#8 → cpuTick s = .next (countTick (referenceFetchTick s))

/-- A count-down tick only decrements the counter and counts the tick (R136, R137, D38), and a system clock in a CPU slot
with no transfer active and the counter not at zero runs one, between the picture unit's clock and the rest (R240, R244).
Tier 1. -/
def Obligations.CountDownTick : Prop :=
  ∀ s : State, s.cycles ≠ 0#8 →
    cpuTick s = .next { s with cycles := s.cycles - 1#8, totalClocks := s.totalClocks + 1 } ∧
    (s.pending = [] → s.clockCount % 3 = 0 → s.dmaActive = false →
      step s = .next (clockTail
        { pictureClock s with cycles := s.cycles - 1#8, totalClocks := s.totalClocks + 1 }))

/-- From a state with `cycles = N`, N ticks bring the counter to 0 and change nothing else but `total_clocks`, so an
instruction of cost N occupies N + 1 ticks (R138). Tier 2. -/
def Obligations.CountDownReachesFetch : Prop :=
  ∀ s : State, cpuTicks s.cycles.toNat s =
    .next { s with cycles := 0#8, totalClocks := s.totalClocks + s.cycles.toNat }

/-- One system clock: the picture unit is clocked every time, the sound unit on even counts, the counter goes up by one
(R240, R241, R243). The clock that is a pending call and the one a step makes with none pending are the same
`bus.clock()` (R302, R341; that a step makes one with none pending is the model's choice, log 1). Tier 2. -/
def Obligations.ClockDivider : Prop :=
  (∀ s : State, s.pending = [] → ∃ t, step s = .next t ∧ t.picture.ticks = s.picture.ticks + 1 ∧
    t.sound.ticks = (if s.clockCount % 2 = 0 then s.sound.ticks + 1 else s.sound.ticks) ∧
    t.clockCount = s.clockCount + 1) ∧
  (∀ s : State, s.pending = [] → step s = busClock s) ∧
  (∀ (s : State) (rest : List EnvCall), s.pending = .clock :: rest → step s = busClock { s with pending := rest })

/-- Outside a CPU slot a system clock touches neither the CPU, nor RAM, nor the cartridge, nor the DMA controller, and
calls no collaborator register (R240, R241). Tier 1. -/
def Obligations.IdleOutsideSlots : Prop :=
  ∀ s : State, s.pending = [] → s.clockCount % 3 ≠ 0 →
    step s = .next { s with
      picture := ⟨s.picture.ticks + 1, s.picture.calls⟩,
      sound := ⟨if s.clockCount % 2 = 0 then s.sound.ticks + 1 else s.sound.ticks, s.sound.calls⟩,
      clockCount := s.clockCount + 1 }

/-- The picture unit is clocked before the CPU slot and the sound unit after it: a register access in the slot is
recorded at the picture unit's new tick and the sound unit's old one (R242). Tier 2. -/
def Obligations.PictureFirstSoundLast : Prop :=
  ∀ s t : State, s.pending = [] → step s = .next t →
    (∀ c ∈ t.picture.calls, c ∈ s.picture.calls ∨ c.1 = s.picture.ticks + 1) ∧
    (∀ c ∈ t.sound.calls, c ∈ s.sound.calls ∨ c.1 = s.sound.ticks)

/-- With eight cycles of latency, from a system clock count of 0, the 25th clock is the first fetch: 24 clocks leave
`cycles` at 0, `total_clocks` at 8 more, and the registers, RAM and the cartridge as they were (R255, R333). Tier 2. -/
def Obligations.FirstFetchAtCount24 : Prop :=
  ∀ s : State, s.pending = [] → s.clockCount = 0 → s.dmaActive = false → s.cycles = 8#8 →
    ∃ t, Host.Core.run Sys2Proof.core 24 s = .next t ∧ t.clockCount = 24 ∧ t.cycles = 0#8 ∧
      t.totalClocks = s.totalClocks + 8 ∧ t.pc = s.pc ∧ t.a = s.a ∧ t.x = s.x ∧ t.y = s.y ∧ t.sp = s.sp ∧ t.p = s.p ∧
      t.ram = s.ram ∧ t.cart = s.cart ∧ t.dmaActive = false ∧ t.pending = []

/-! ## Loads, stores, branches, unimplemented opcodes: results -/

/-- LDA completes in every mode, with the byte at the rule's effective address (R171-R179, D9). Tier 2. -/
def Obligations.LdaResult : Prop :=
  ∀ s : State,
    (∀ v, LoadLeaves (.ldaImm v) .a (v, s) 2#16 2#8 false s) ∧
    (∀ z, LoadLeaves (.ldaZp0 z) .a (memRead (zext z) s) 2#16 3#8 false s) ∧
    (∀ z, LoadLeaves (.ldaZpx z) .a (memRead (zext (z + s.x)) s) 2#16 4#8 false s) ∧
    (∀ w, LoadLeaves (.ldaAbs w) .a (memRead w s) 3#16 4#8 false s) ∧
    (∀ w, LoadLeaves (.ldaAbx w) .a (memRead (w + zext s.x) s) 3#16 (indexedCost 4#8 w s.x) (carries w s.x) s) ∧
    (∀ w, LoadLeaves (.ldaAby w) .a (memRead (w + zext s.y) s) 3#16 (indexedCost 4#8 w s.y) (carries w s.y) s) ∧
    (∀ z, LoadLeaves (.ldaIzx z) .a (memRead (pointerAt (z + s.x) s) s) 2#16 6#8 false s) ∧
    (∀ z, LoadLeaves (.ldaIzy z) .a (memRead (pointerAt z s + zext s.y) s) 2#16
      (indexedCost 5#8 (pointerAt z s) s.y) (carries (pointerAt z s) s.y) s)

/-- LDX completes in every mode, indexing with Y (R180-R185, D9). Tier 2. -/
def Obligations.LdxResult : Prop :=
  ∀ s : State,
    (∀ v, LoadLeaves (.ldxImm v) .x (v, s) 2#16 2#8 false s) ∧
    (∀ z, LoadLeaves (.ldxZp0 z) .x (memRead (zext z) s) 2#16 3#8 false s) ∧
    (∀ z, LoadLeaves (.ldxZpy z) .x (memRead (zext (z + s.y)) s) 2#16 4#8 false s) ∧
    (∀ w, LoadLeaves (.ldxAbs w) .x (memRead w s) 3#16 4#8 false s) ∧
    (∀ w, LoadLeaves (.ldxAby w) .x (memRead (w + zext s.y) s) 3#16 (indexedCost 4#8 w s.y) (carries w s.y) s)

/-- LDY completes in every mode, indexing with X (R186-R191, D9). Tier 2. -/
def Obligations.LdyResult : Prop :=
  ∀ s : State,
    (∀ v, LoadLeaves (.ldyImm v) .y (v, s) 2#16 2#8 false s) ∧
    (∀ z, LoadLeaves (.ldyZp0 z) .y (memRead (zext z) s) 2#16 3#8 false s) ∧
    (∀ z, LoadLeaves (.ldyZpx z) .y (memRead (zext (z + s.x)) s) 2#16 4#8 false s) ∧
    (∀ w, LoadLeaves (.ldyAbs w) .y (memRead w s) 3#16 4#8 false s) ∧
    (∀ w, LoadLeaves (.ldyAbx w) .y (memRead (w + zext s.x) s) 3#16 (indexedCost 4#8 w s.x) (carries w s.x) s)

/-- STA completes in every mode with one bus write of A to the rule's effective address; the indexed modes pay the
page-crossing cycle too (R201-R208, D9, D10). Tier 2. -/
def Obligations.StaResult : Prop :=
  ∀ s : State,
    (∀ z, StoreLeaves (.staZp0 z) .a (zext z) 2#16 3#8 false s) ∧
    (∀ z, StoreLeaves (.staZpx z) .a (zext (z + s.x)) 2#16 4#8 false s) ∧
    (∀ w, StoreLeaves (.staAbs w) .a w 3#16 4#8 false s) ∧
    (∀ w, StoreLeaves (.staAbx w) .a (w + zext s.x) 3#16 (indexedCost 5#8 w s.x) (carries w s.x) s) ∧
    (∀ w, StoreLeaves (.staAby w) .a (w + zext s.y) 3#16 (indexedCost 5#8 w s.y) (carries w s.y) s) ∧
    (∀ z, StoreLeaves (.staIzx z) .a (pointerAt (z + s.x) s) 2#16 6#8 false s) ∧
    (∀ z, StoreLeaves (.staIzy z) .a (pointerAt z s + zext s.y) 2#16
      (indexedCost 6#8 (pointerAt z s) s.y) (carries (pointerAt z s) s.y) s)

/-- STX (indexing with Y) and STY (indexing with X) complete in every mode with one bus write (R209-R216, D9).
Tier 2. -/
def Obligations.StxStyResult : Prop :=
  ∀ s : State,
    (∀ z, StoreLeaves (.stxZp0 z) .x (zext z) 2#16 3#8 false s) ∧
    (∀ z, StoreLeaves (.stxZpy z) .x (zext (z + s.y)) 2#16 4#8 false s) ∧
    (∀ w, StoreLeaves (.stxAbs w) .x w 3#16 4#8 false s) ∧
    (∀ z, StoreLeaves (.styZp0 z) .y (zext z) 2#16 3#8 false s) ∧
    (∀ z, StoreLeaves (.styZpx z) .y (zext (z + s.x)) 2#16 4#8 false s) ∧
    (∀ w, StoreLeaves (.styAbs w) .y w 3#16 4#8 false s)

/-- BCC, BCS, BNE, BEQ complete: at `a + 2 + sext(rr)` when the flag matches, at `a + 2` when not (R220-R226, D9,
D39). Tier 2. -/
def Obligations.BranchTargets : Prop :=
  ∀ (r : Byte) (s : State),
    BranchLeaves (.bcc r) r (!getFlag .carry s.p) s ∧ BranchLeaves (.bcs r) r (getFlag .carry s.p) s ∧
    BranchLeaves (.bne r) r (!getFlag .zero s.p) s ∧ BranchLeaves (.beq r) r (getFlag .zero s.p) s

/-- A branch writes its base cost when not taken, one more when taken, two more when the new PC is on another page than
the old one, which is the address of the next instruction; the flags the penalty reads are the ones this branch wrote
(R135, R227; D11 for the old PC). Tier 2. -/
def Obligations.BranchCosts : Prop :=
  ∀ (i : Instr) (c : Cond) (s : State), i.descriptor.handler = .branch c →
    ∃ t, exec i s = .next t ∧ t.branchTaken = condHolds c s.p ∧
      t.cycles = i.descriptor.base +
        (if t.branchTaken then (if page t.pc = page (s.pc + 2#16) then 1#8 else 2#8) else 0#8)

/-- Every one of the 221 unimplemented opcodes (UNIMP_00 to UNIMP_FF, the constructors `unimp00` to `unimpFF`)
completes: PC + 1, `opcode` the byte, `cycles` 1, the transient flags cleared, nothing else changed (R107, R230, R231,
D8). Tier 2. -/
def Obligations.UnimplementedIsOneByteNoEffect : Prop :=
  ∀ (i : Instr) (s : State), i.descriptor = unimplemented →
    exec i s = .next { s with
      pc := s.pc + 1#16, opcode := i.opcode, cycles := 1#8, branchTaken := false, pageCrossed := false }

/-- Which opcode bytes are unimplemented: all but the 35 of the descriptor table (R106, R107, D9). Tier 1. -/
def Obligations.UnimplementedBytes : Prop :=
  ∀ op : Byte, isUnimplemented op = !(List.contains
    [0x81#8, 0x84#8, 0x85#8, 0x86#8, 0x8C#8, 0x8D#8, 0x8E#8, 0x90#8, 0x91#8, 0x94#8, 0x95#8, 0x96#8, 0x99#8, 0x9D#8,
     0xA0#8, 0xA1#8, 0xA2#8, 0xA4#8, 0xA5#8, 0xA6#8, 0xA9#8, 0xAC#8, 0xAD#8, 0xAE#8, 0xB0#8, 0xB1#8, 0xB4#8, 0xB5#8,
     0xB6#8, 0xB9#8, 0xBC#8, 0xBD#8, 0xBE#8, 0xD0#8, 0xF0#8] op)

/-! ## Frames -/

/-- The load handler, for all 18 loads: the register gets the byte read at the effective address with one bus read, Z
is set iff the byte is 0 and cleared otherwise, N is bit 7, and the other six flags, the other registers, all memory and
the rest are kept (R170). In immediate mode the byte is the operand byte itself and the meaning makes no bus read,
because the fetch has made it: that clause is the model's reading of R152 and D13 (DEDUCED, log 15). Tier 2. -/
def Obligations.LoadHandlerFrame : Prop :=
  ∀ (i : Instr) (r : Reg) (s : State), i.descriptor.handler = .load r →
    ∃ t, exec i s = .next t ∧
      (∀ v, operandOf i = .imm v → getReg r t = v ∧ t.picture = s.picture ∧ t.sound = s.sound) ∧
      ((∀ v, operandOf i ≠ .imm v) →
        getReg r t = (memRead (effectiveAddress i s) s).1 ∧
        t.picture = (memRead (effectiveAddress i s) s).2.picture ∧
        t.sound = (memRead (effectiveAddress i s) s).2.sound) ∧
      getFlag .zero t.p = (getReg r t == 0x00#8) ∧ getFlag .negative t.p = (getReg r t).getLsbD 7 ∧
      (∀ f : Flag, f ≠ .zero → f ≠ .negative → getFlag f t.p = getFlag f s.p) ∧
      (∀ q : Reg, q ≠ r → getReg q t = getReg q s) ∧
      KeepsControl s t ∧ KeepsDma s t ∧ t.ram = s.ram ∧ SameMemory s t

/-- The store handler, for all 13 stores, none of them immediate: one bus write of the register to the effective
address, "pure write, no flag effect": P and every register kept, the target not read (no read is added to a
collaborator's history), and every byte of memory outside the stored cell as before (R200). Tier 2. -/
def Obligations.StoreHandlerFrame : Prop :=
  ∀ (i : Instr) (r : Reg) (s : State), i.descriptor.handler = .store r →
    i.descriptor.mode ≠ .imm ∧
    ∃ t, exec i s = .next t ∧
      t.ram = (memWrite (effectiveAddress i s) (getReg r s) s).ram ∧
      t.picture = (memWrite (effectiveAddress i s) (getReg r s) s).picture ∧
      t.sound = (memWrite (effectiveAddress i s) (getReg r s) s).sound ∧
      t.dmaPage = (memWrite (effectiveAddress i s) (getReg r s) s).dmaPage ∧
      t.dmaActive = (memWrite (effectiveAddress i s) (getReg r s) s).dmaActive ∧
      t.dmaPhase = (memWrite (effectiveAddress i s) (getReg r s) s).dmaPhase ∧
      t.p = s.p ∧ (∀ q : Reg, getReg q t = getReg q s) ∧ KeepsControl s t ∧
      (effectiveAddress i s ≠ 0x4014#16 → KeepsDma s t) ∧
      (∀ n k, (n, PictureCall.readRegister k) ∈ t.picture.calls → (n, PictureCall.readRegister k) ∈ s.picture.calls) ∧
      (∀ n k, (n, SoundCall.readRegister k) ∈ t.sound.calls → (n, SoundCall.readRegister k) ∈ s.sound.calls) ∧
      (∀ a : Word, isMemory a = true → sameRamCell a (effectiveAddress i s) = false →
        (memRead a t).1 = (memRead a s).1)

/-- What BCC, BCS, BNE, BEQ and the 221 unimplemented opcodes leave: everything but PC, `opcode`, `cycles` and the two
transient flags; every byte of memory (R220, R230). Tier 2. -/
def Obligations.BranchAndUnimplementedFrame : Prop :=
  ∀ (i : Instr) (s : State), ((∃ c, i.descriptor.handler = .branch c) ∨ i.descriptor.handler = .none) →
    ∃ t, exec i s = .next t ∧ t.p = s.p ∧ (∀ q : Reg, getReg q t = getReg q s) ∧ KeepsControl s t ∧ KeepsDma s t ∧
      t.ram = s.ram ∧ t.picture = s.picture ∧ t.sound = s.sound ∧ SameMemory s t

/-- What a store to RAM leaves to read: the stored byte, at every mirror of the cell (R69, R200, R202). For each of the
13 store instructions whose effective address is in the RAM window. Tier 2. -/
def Obligations.StoreThenRead : Prop :=
  ∀ (i : Instr) (r : Reg) (s : State) (b : Word), i.descriptor.handler = .store r →
    sameRamCell b (effectiveAddress i s) = true →
    ∃ t, exec i s = .next t ∧ (memRead b t).1 = getReg r s

/-! ## Addressing modes -/

/-- ZPX: one operand byte, the 8-bit sum with X, never a crossing (R154). Tier 2. -/
def Obligations.ZeroPageXWraps : Prop :=
  ∀ s : State, (resolveAt .zpx s).addr = zext ((memRead s.pc s).1 + s.x) ∧
    (resolveAt .zpx s).addr.toNat = ((memRead s.pc s).1.toNat + s.x.toNat) % 256 ∧
    (resolveAt .zpx s).crossed = false ∧ (resolveAt .zpx s).state = setPc (s.pc + 1#16) (memRead s.pc s).2

/-- ZPY: as ZPX with Y (R155). Tier 2. -/
def Obligations.ZeroPageYWraps : Prop :=
  ∀ s : State, (resolveAt .zpy s).addr = zext ((memRead s.pc s).1 + s.y) ∧
    (resolveAt .zpy s).addr.toNat = ((memRead s.pc s).1.toNat + s.y.toNat) % 256 ∧
    (resolveAt .zpy s).crossed = false ∧ (resolveAt .zpy s).state = setPc (s.pc + 1#16) (memRead s.pc s).2

/-- REL: the sign-extended displacement: 0x0000-0x007F forward, 0xFF80-0xFFFF backward (R156). Tier 2. -/
def Obligations.RelativeSignExtends : Prop :=
  ∀ s : State,
    (resolveAt .rel s).addr.toNat =
      (if (memRead s.pc s).1.toNat < 0x80 then (memRead s.pc s).1.toNat else 0xFF00 + (memRead s.pc s).1.toNat) ∧
    (resolveAt .rel s).crossed = false ∧ (resolveAt .rel s).state = setPc (s.pc + 1#16) (memRead s.pc s).2

/-- ABX and ABY: the base's low byte read at PC and its high byte behind it, the index added modulo 2^16, crossed
exactly when the high byte changes, which is when the low byte carries (R158, R159). Tier 2. -/
def Obligations.AbsoluteIndexed : Prop :=
  ∀ (s : State) (base : Word),
    base = wordOf (memRead (s.pc + 1#16) (memRead s.pc s).2).1 (memRead s.pc s).1 →
    (resolveAt .abx s).addr = base + zext s.x ∧
    (resolveAt .abx s).crossed = (highByte (resolveAt .abx s).addr != highByte base) ∧
    (resolveAt .abx s).crossed = carries base s.x ∧
    (resolveAt .abx s).state = setPc (s.pc + 2#16) (memRead (s.pc + 1#16) (memRead s.pc s).2).2 ∧
    (resolveAt .aby s).addr = base + zext s.y ∧
    (resolveAt .aby s).crossed = (highByte (resolveAt .aby s).addr != highByte base) ∧
    (resolveAt .aby s).crossed = carries base s.y ∧
    (resolveAt .aby s).state = setPc (s.pc + 2#16) (memRead (s.pc + 1#16) (memRead s.pc s).2).2

/-- IND: the target's low byte is read at the pointer and then its high byte, at the start of the pointer's page when
the pointer's low byte is 0xFF and at pointer + 1 otherwise; never a crossing; PC is behind the two operand bytes (R160,
D13). No instruction uses it; the resolver has it. Tier 2. -/
def Obligations.IndirectPageWrap : Prop :=
  ∀ (s : State) (phi plo : Byte) (ptr high : Word),
    ptr = wordOf phi plo → (nextWord s).1 = ptr →
    high = (if plo = 0xFF#8 then wordOf phi 0x00#8 else ptr + 1#16) →
    (resolveAt .ind s).addr =
      wordOf (memRead high (memRead ptr (nextWord s).2).2).1 (memRead ptr (nextWord s).2).1 ∧
    (resolveAt .ind s).crossed = false ∧
    (resolveAt .ind s).state = (memRead high (memRead ptr (nextWord s).2).2).2 ∧
    (resolveAt .ind s).state.pc = s.pc + 2#16

/-! ## The bus -/

/-- RAM window: a read returns `RAM[a & 0x07FF]`, a write stores there, a read has no side effect, a write then a read
gives the byte, and a read equals the read of the masked address (R69). Tier 2. -/
def Obligations.RamReadsBack : Prop :=
  ∀ (s : State) (a : Word) (v : Byte), a ≤ 0x1FFF#16 →
    memRead a s = (cellsRead .ram (a &&& 0x07FF#16).toNat s.ram, s) ∧
    memWrite a v s = { s with ram := cellsWrite .ram (a &&& 0x07FF#16).toNat v s.ram } ∧
    (memRead a (memWrite a v s)).1 = v ∧ (memRead a s).1 = (memRead (a &&& 0x07FF#16) s).1

/-- The bus read with nothing claimed by the cartridge: RAM, the picture register `a & 7`, the sound register `a`, and
0x00 with no effect for 0x4014 and every address without an owner (R67, R70-R73; D18-D20, D32). The driver's own
`bus.read` answers what the bus read gives and has its effect on a collaborator, and marks the run (R341, D43; that it is
modelled so is the model's choice, log 11). Tier 1. -/
def Obligations.BusReadDecode : Prop :=
  (∀ (s : State) (a : Word), cartCpuRead a s = none →
    (a ≤ 0x1FFF#16 → memRead a s = (cellsRead .ram (a.toNat % 0x800) s.ram, s)) ∧
    (0x2000#16 ≤ a ∧ a ≤ 0x3FFF#16 →
      memRead a s = (Config.pictureByte s.picture (a.setWidth 3), pictureCall (.readRegister (a.setWidth 3)) s)) ∧
    (0x4000#16 ≤ a ∧ a ≤ 0x4015#16 ∧ a ≠ 0x4014#16 →
      memRead a s = (Config.soundByte s.sound a, soundCall (.readRegister a) s)) ∧
    (a = 0x4014#16 ∨ 0x4016#16 ≤ a → memRead a s = (0x00#8, s))) ∧
  (∀ (s : State) (a : Word) (rest : List EnvCall), s.pending = .busRead a :: rest →
    step s = .next { s with
      pending := rest, picture := (memRead a s).2.picture, sound := (memRead a s).2.sound,
      reply := .data (memRead a s).1, outOfContract := true })

/-- The bus write with nothing claimed by the cartridge (R68, R70-R73; D18-D20, D32). The driver's own `bus.write` has
the effect of the bus write, the DMA trigger included, and marks the run (R257, R341, D43; that it is modelled so is the
model's choice, log 11). Tier 1. -/
def Obligations.BusWriteDecode : Prop :=
  (∀ (s : State) (a : Word) (v : Byte), cartCpuWrite a v s = false →
    (a ≤ 0x1FFF#16 → memWrite a v s = { s with ram := cellsWrite .ram (a.toNat % 0x800) v s.ram }) ∧
    (0x2000#16 ≤ a ∧ a ≤ 0x3FFF#16 → memWrite a v s = pictureCall (.writeRegister (a.setWidth 3) v) s) ∧
    (0x4000#16 ≤ a ∧ a ≤ 0x4015#16 ∧ a ≠ 0x4014#16 → memWrite a v s = soundCall (.writeRegister a v) s) ∧
    (a = 0x4014#16 → memWrite a v s = { s with dmaPage := v, dmaActive := true, dmaPhase := .read }) ∧
    (0x4016#16 ≤ a → memWrite a v s = s)) ∧
  (∀ (s : State) (a : Word) (v : Byte) (rest : List EnvCall), s.pending = .busWrite a v :: rest →
    step s = .next { memWrite a v s with pending := rest, outOfContract := true })

/-- Below 0x8000 the fixed-bank mapper claims neither reads nor writes, so the bus consults its own windows, and
0x4020-0x7FFF ends as unclaimed (R287). Tier 1. -/
def Obligations.LowAddressesNotClaimed : Prop :=
  ∀ (s : State) (c : Cartridge) (a : Word) (v : Byte), s.cart = some c → a < 0x8000#16 →
    cartridgeCpuRead c a = none ∧ cartridgeCpuWrite c a v = false ∧
    memRead a s = ((memRead a { s with cart := none }).1, { (memRead a { s with cart := none }).2 with cart := s.cart }) ∧
    memWrite a v s = { memWrite a v { s with cart := none } with cart := s.cart } ∧
    (0x4020#16 ≤ a → memRead a s = (0x00#8, s) ∧ memWrite a v s = s)

/-- The fixed-bank mapper claims a write exactly at or above 0x8000, PRG empty or not, and changes nothing: with a
cartridge present the bus write there has no effect (R288). Tier 1. -/
def Obligations.RomWriteClaimedNoEffect : Prop :=
  ∀ (s : State) (c : Cartridge) (a : Word) (v : Byte), s.cart = some c →
    cartridgeCpuWrite c a v = decide (0x8000#16 ≤ a) ∧ (0x8000#16 ≤ a → memWrite a v s = s)

/-- A read at or above 0x8000 gives PRG at the window offset modulo its length, 0x00 when PRG is empty or there is no
cartridge, and has no side effect (R73, R286, R295; D26, D27, D32). Tier 2. -/
def Obligations.RomRead : Prop :=
  ∀ (s : State) (a : Word), 0x8000#16 ≤ a →
    memRead a s =
      (match s.cart with
       | some c => if c.prgCount = 0#8 then 0x00#8
                   else cellsRead .rom ((a.toNat - 0x8000) % (c.prgCount.toNat * 16384)) c.prg
       | none => 0x00#8, s)

/-- With one PRG bank the two halves of the window show the same byte (R286, T10). Tier 2. -/
def Obligations.HalfSizePrgMirrored : Prop :=
  ∀ (c : Cartridge) (a : Word), c.prgCount = 1#8 → 0x8000#16 ≤ a →
    cartridgeCpuRead c a = cartridgeCpuRead c (a ^^^ 0x4000#16)

/-! ## The DMA controller -/

/-- The two halves of a DMA pair. The read half, from any page: the staging register gets the bus read of page : cursor,
the phase goes to Write, page, cursor and activity are kept, and nothing else changes but what that read does to a
collaborator (R245, R246). The write half: the staged byte to the OAM port, the cursor one on modulo 2^8, the page
kept, the transfer ended exactly when the cursor wraps from 0xFF to 0x00, the phase back to Read (R247-R249). Tier 1. -/
def Obligations.DmaWriteStepEffect : Prop :=
  (∀ (s : State) (source : Word), s.dmaPhase = .read → source = wordOf s.dmaPage s.dmaCursor →
    dmaExecute s = { s with
      picture := (memRead source s).2.picture, sound := (memRead source s).2.sound,
      dmaStaging := (memRead source s).1,
      dmaPhase := .write }) ∧
  (∀ s : State, s.dmaPhase = .write →
    dmaExecute s = { s with
      picture := ⟨s.picture.ticks, (s.picture.ticks, .oamDataWrite s.dmaStaging) :: s.picture.calls⟩,
      dmaCursor := s.dmaCursor + 1#8,
      dmaActive := if s.dmaCursor = 0xFF#8 then false else s.dmaActive,
      dmaPhase := .read })

/-- A transfer from the start of a page takes exactly 512 DMA steps, whatever the page (R251; D15, D42). Tier 2. -/
def Obligations.TransferTakes512Steps : Prop :=
  ∀ s : State, s.dmaActive = true → s.dmaCursor = 0x00#8 → s.dmaPhase = .read →
    (∀ k, k < 512 → (Nat.iterate dmaExecute k s).dmaActive = true) ∧
    (Nat.iterate dmaExecute 512 s).dmaActive = false ∧ (Nat.iterate dmaExecute 512 s).dmaCursor = 0x00#8 ∧
    (Nat.iterate dmaExecute 512 s).dmaPhase = .read ∧ (Nat.iterate dmaExecute 512 s).dmaPage = s.dmaPage

/-- A transfer from a RAM page hands the 256 bytes of the page to the OAM port in order, and changes no memory (R246,
R247, R251, R258). Tier 2. -/
def Obligations.TransferCopiesRamPage : Prop :=
  ∀ s : State, s.dmaActive = true → s.dmaCursor = 0x00#8 → s.dmaPhase = .read → s.dmaPage < 0x20#8 →
    oamBytes (Nat.iterate dmaExecute 512 s).picture =
      oamBytes s.picture ++
        (List.range 256).map (fun k => (memRead (wordOf s.dmaPage (BitVec.ofNat 8 k)) s).1) ∧
    (Nat.iterate dmaExecute 512 s).ram = s.ram ∧ (Nat.iterate dmaExecute 512 s).cart = s.cart

/-- While a transfer is active a system clock runs one DMA step in a CPU slot, in the CPU's place, between the picture
unit's clock and the rest of the clock, and none outside the slots; and it leaves the whole CPU and RAM as they are, while
the two collaborators keep being clocked (R240, R244, R245, R250, R258). Tier 2. -/
def Obligations.TransferStarvesCpu : Prop :=
  ∀ s : State, s.pending = [] → s.dmaActive = true →
    (s.clockCount % 3 = 0 → step s = .next (clockTail (dmaExecute (pictureClock s)))) ∧
    (s.clockCount % 3 ≠ 0 → step s = .next (clockTail (pictureClock s))) ∧
    ∃ t, step s = .next t ∧
    t.a = s.a ∧ t.x = s.x ∧ t.y = s.y ∧ t.sp = s.sp ∧ t.pc = s.pc ∧ t.p = s.p ∧ t.opcode = s.opcode ∧
    t.cycles = s.cycles ∧ t.totalClocks = s.totalClocks ∧ t.branchTaken = s.branchTaken ∧
    t.pageCrossed = s.pageCrossed ∧ t.ram = s.ram ∧ t.cart = s.cart ∧ t.picture.ticks = s.picture.ticks + 1 ∧
    t.sound.ticks = (if s.clockCount % 2 = 0 then s.sound.ticks + 1 else s.sound.ticks)

/-! ## The cartridge -/

/-- A successful load holds exactly the image's bytes: PRG of `count * 16384` bytes from offset 16, CHR-ROM of
`count * 8192` bytes behind it, or an 8192-byte writable CHR-RAM when the CHR count is 0 (R280). Tier 2. -/
def Obligations.LoadedArrays : Prop :=
  ∀ (im : RomImage) (c : Cartridge), loadImage im = .ok c →
    prgLength c = (imageByte im 4).toNat * 16384 ∧
    (∀ k, k < prgLength c → cellsRead .rom k c.prg = imageByte im (16 + k)) ∧
    ((imageByte im 5).toNat ≠ 0 → chrIsRam c = false ∧ chrLength c = (imageByte im 5).toNat * 8192 ∧
      ∀ k, k < chrLength c → cellsRead .rom k c.chr = imageByte im (16 + prgLength c + k)) ∧
    ((imageByte im 5).toNat = 0 → chrIsRam c = true ∧ chrLength c = 8192 ∧
      ∀ (a : PicAddr) (v : Byte), a.toNat < 8192 → cartridgePpuRead (cartridgePpuWrite c a v).1 a = some v)

/-- Which images load, and which failure is reported: too short, bad magic, truncated, unsupported mapper, in that order
(R272, R276, R278, R296; D21, D22, D24). Tier 2. -/
def Obligations.LoadChecks : Prop :=
  ∀ im : RomImage,
    loadImage im =
      if im.size < 16 then .error .headerTooShort
      else if (imageByte im 0, imageByte im 1, imageByte im 2, imageByte im 3) ≠ (0x4E#8, 0x45#8, 0x53#8, 0x1A#8) then
        .error .badMagic
      else if im.size < 16 + (imageByte im 4).toNat * 16384 + (imageByte im 5).toNat * 8192 then .error .truncatedBody
      else if (imageByte im 6).toNat / 16 + 16 * ((imageByte im 7).toNat / 16) ≠ 0 then
        .error (.unsupportedMapper
          (BitVec.ofNat 8 ((imageByte im 6).toNat / 16 + 16 * ((imageByte im 7).toNat / 16))))
      else .ok (imageCartridge im)

/-- The load step. A failed load tells the driver which failure, and changes nothing else (R279). A successful load
makes the loaded cartridge present, tells the driver so, and changes nothing else: not PC, not RAM (R278, R337); that
cartridge has the header's counts, mapper id 0 and the fixed-bank mapper, and its mirroring is Vertical exactly when bit 0
of header byte 6 is set, and else Horizontal (R273-R276, R281; D22, D35). Tier 1. -/
def Obligations.FailedLoadChangesNothing : Prop :=
  ∀ (s : State) (im : RomImage) (rest : List EnvCall), s.pending = .load im :: rest →
    (∀ f, loadImage im = .error f → step s = .next { s with pending := rest, reply := .loadFailed f }) ∧
    (∀ c, loadImage im = .ok c →
      step s = .next { s with pending := rest, cart := some c, reply := .loaded } ∧
      c.prgCount = imageByte im 4 ∧ c.chrCount = imageByte im 5 ∧ c.mapperId = 0x00#8 ∧ c.mapper = .fixedBank ∧
      c.mirroring = (if (imageByte im 6).toNat % 2 = 1 then .vertical else .horizontal) ∧
      cartridgeMirrorMode c = c.mirroring)

/-- No step but a successful load changes PRG, the counts, the mapper id or the mirroring; in particular no instruction
writes PRG (R48, R281, R289). Tier 3. -/
def Obligations.CartridgeFixedAfterLoad : Prop :=
  ∀ (s t : State) (c : Cartridge), s.cart = some c → step s = .next t →
    (∀ im rest, s.pending ≠ .load im :: rest) →
    ∃ d, t.cart = some d ∧ d.prg = c.prg ∧ d.prgCount = c.prgCount ∧ d.chrCount = c.chrCount ∧
      d.mapperId = c.mapperId ∧ d.mirroring = c.mirroring ∧ d.mapper = c.mapper ∧
      (chrIsRam c = false → d.chr = c.chr)

/-- The picture side. The mapper: in 0x0000-0x1FFF a read gives `CHR[a]`, the image's byte with CHR-ROM and the RAM cell
with CHR-RAM, and the index is always in range; a write to CHR-RAM is read back and leaves the other cells, a write to
CHR-ROM is claimed and ignored; 0x2000-0x3FFF is declined (R290-R292; D28, D33). The step: a call `ppu_write` leaves the
cartridge the mapper's write gives, `ppu_read` and `mirror_mode` leave the cartridge as it is, and all three change
nothing else but the picture unit's record, to which the call and the cartridge's answer are added (R12, R290-R293; the
record is the model's, log 3; the answer with no cartridge is left open here, log 13, 18). The hooks and
`cartridge.reset()` change nothing beyond taking the call, `irq_state()` answering false (R285, R293, R294; with no
cartridge that is the model's choice, log 13). Tier 2. -/
def Obligations.PictureSideAccess : Prop :=
  (∀ (c : Cartridge) (a b : PicAddr) (v : Byte),
    (a ≤ 0x1FFF#14 → a.toNat < chrLength c ∧ (cartridgePpuWrite c a v).2 = true ∧
      (chrIsRam c = true → cartridgePpuRead c a = some (cellsRead .chrRam a.toNat c.chr) ∧
        cartridgePpuRead (cartridgePpuWrite c a v).1 a = some v ∧
        (b ≠ a → cartridgePpuRead (cartridgePpuWrite c a v).1 b = cartridgePpuRead c b)) ∧
      (chrIsRam c = false → cartridgePpuRead c a = some (cellsRead .rom a.toNat c.chr) ∧
        (cartridgePpuWrite c a v).1 = c)) ∧
    (0x1FFF#14 < a → cartridgePpuWrite c a v = (c, false) ∧ cartridgePpuRead c a = none)) ∧
  (∀ (s : State) (rest : List EnvCall) (a : PicAddr) (v : Byte), s.pending = .ppuWrite a v :: rest →
    ∃ answer, (∀ c, s.cart = some c → answer = (cartridgePpuWrite c a v).2) ∧
      step s = .next { s with
        pending := rest,
        cart := s.cart.map fun c => (cartridgePpuWrite c a v).1,
        picture := ⟨s.picture.ticks, (s.picture.ticks, .ppuWrite a v answer) :: s.picture.calls⟩ }) ∧
  (∀ (s : State) (rest : List EnvCall) (a : PicAddr), s.pending = .ppuRead a :: rest →
    ∃ answer, (∀ c, s.cart = some c → answer = cartridgePpuRead c a) ∧
      step s = .next { s with
        pending := rest,
        picture := ⟨s.picture.ticks, (s.picture.ticks, .ppuRead a answer) :: s.picture.calls⟩ }) ∧
  (∀ (s : State) (rest : List EnvCall), s.pending = .mirrorMode :: rest →
    ∃ answer, (∀ c, s.cart = some c → answer = some c.mirroring) ∧
      step s = .next { s with
        pending := rest,
        picture := ⟨s.picture.ticks, (s.picture.ticks, .mirrorMode answer) :: s.picture.calls⟩ }) ∧
  (∀ (s : State) (rest : List EnvCall),
    (s.pending = .scanline :: rest ∨ s.pending = .irqClear :: rest ∨ s.pending = .cartReset :: rest →
      step s = .next { s with pending := rest }) ∧
    (s.pending = .irqState :: rest → step s = .next { s with pending := rest, reply := .irqLine false }))

/-! ## Interrupts and reset -/

/-- A masked `irq()` changes nothing at all (R302, R303): the call is lost. Tier 1. -/
def Obligations.MaskedIrqIsLost : Prop :=
  ∀ (s : State) (rest : List EnvCall), s.pending = .irq :: rest → getFlag .interruptDisable s.p = true →
    step s = .next { s with pending := rest }

/-- Taking an interrupt (`irq()` with I clear, `nmi()` always): PC high, PC low and the status with B cleared and U set
go to the stack page at SP, SP - 1, SP - 2; SP drops by 3; I is set, B cleared, U set in the register; PC is the
little-endian word at the vector; `cycles` is 7 or 8; nothing else changes (R303-R305; D1, D2, D13, D30). Tier 2. -/
def Obligations.InterruptEntryEffect : Prop :=
  ∀ (s : State) (rest : List EnvCall) (vec : Word) (latency : Byte),
    (s.pending = .irq :: rest ∧ getFlag .interruptDisable s.p = false ∧ vec = 0xFFFE#16 ∧ latency = 7#8) ∨
      (s.pending = .nmi :: rest ∧ vec = 0xFFFA#16 ∧ latency = 8#8) →
    step s = .next { s with
      pending := rest,
      ram := cellsWrite .ram (0x100 + (s.sp - 2#8).toNat) ((s.p &&& 0xEF#8) ||| 0x20#8)
        (cellsWrite .ram (0x100 + (s.sp - 1#8).toNat) (lowByte s.pc)
          (cellsWrite .ram (0x100 + s.sp.toNat) (highByte s.pc) s.ram)),
      sp := s.sp - 3#8,
      p := (s.p &&& 0xEF#8) ||| 0x24#8,
      pc := wordOf (memRead (vec + 1#16) s).1 (memRead vec s).1,
      cycles := latency }

/-- `nmi()` and then `irq()`: one frame, and the `irq()` is lost because `nmi()` set I (R308, D31). Tier 2. -/
def Obligations.IrqAfterNmiIsLost : Prop :=
  ∀ s : State, cpuIrq (cpuNmi s) = cpuNmi s

/-- What `bus.reset()` leaves: the values the spec gives every register, counter and DMA field, PC the word at the reset
vector, RAM and the cartridge kept (R50, R254, R331, R332; A, X, Y are the model's choice of `RESET_A/X/Y`, log 6).
Tier 2. -/
def Obligations.ResetEffect : Prop :=
  ∀ (s : State) (rest : List EnvCall), s.pending = .reset :: rest →
    step s = .next { s with
      pending := rest, a := Config.resetA, x := Config.resetX, y := Config.resetY, sp := 0xFD#8, p := 0x20#8,
      pc := wordOf (memRead 0xFFFD#16 s).1 (memRead 0xFFFC#16 s).1,
      opcode := 0x00#8, cycles := 8#8, totalClocks := 0, branchTaken := false, pageCrossed := false, clockCount := 0,
      dmaActive := false, dmaPage := 0x00#8, dmaCursor := 0x00#8, dmaStaging := 0x00#8, dmaPhase := .read,
      picture := ⟨s.picture.ticks, (s.picture.ticks, .reset) :: s.picture.calls⟩,
      sound := ⟨s.sound.ticks, (s.sound.ticks, .reset) :: s.sound.calls⟩ }

/-- The state the model starts in meets every invariant below (R26, R31, R34, R36, R45, R50; the form of memory is the
model's, log 9). Tier 1. -/
def Obligations.ResetMeetsInvariants : Prop :=
  memoryWf State.reset = true ∧ unusedSet State.reset = true ∧ dmaIdleAtStart State.reset = true ∧
    cyclesBounded State.reset = true ∧ untouchedFlagsClear State.reset = true ∧ withinContract State.reset = true

/-! ## Invariants of every step, from every state that meets them -/

/-- Memory keeps its form: RAM has no cell outside its 2048, PRG and CHR none outside their lengths, every list stays
canonical (R40, R48; log 4, 9). Tier 3. -/
def Obligations.StepKeepsMemoryForm : Prop :=
  ∀ s t : State, memoryWf s = true → step s = .next t → memoryWf t = true

/-- The Unused flag: no step clears it, a reset and a taken interrupt set it whatever it was, and it is 1 after reset
(R31). Tier 3. -/
def Obligations.StepKeepsUnusedSet : Prop :=
  (∀ s t : State, unusedSet s = true → step s = .next t → unusedSet t = true) ∧
  (∀ (s t : State) (rest : List EnvCall),
    (s.pending = .reset :: rest ∨ s.pending = .nmi :: rest ∨
      (s.pending = .irq :: rest ∧ getFlag .interruptDisable s.p = false)) →
    step s = .next t → unusedSet t = true) ∧
  unusedSet State.reset = true

/-- Whenever no transfer is active the cursor is 0x00 and the phase is Read, so every transfer starts at cursor 0 (R45,
R253; D15, D16). Tier 3. -/
def Obligations.StepKeepsDmaIdleAtStart : Prop :=
  ∀ s t : State, dmaIdleAtStart s = true → step s = .next t → dmaIdleAtStart t = true

/-- The remaining-cycles counter never exceeds 8 and so never wraps (R36). Tier 3. -/
def Obligations.StepKeepsCyclesBounded : Prop :=
  ∀ s t : State, cyclesBounded s = true → step s = .next t → cyclesBounded t = true

/-- From reset onward Carry, Decimal, BreakSignal and Overflow stay 0 (R26, R29, R30, R32). Tier 3. -/
def Obligations.StepKeepsUntouchedFlagsClear : Prop :=
  ∀ s t : State, untouchedFlagsClear s = true → step s = .next t → untouchedFlagsClear t = true

/-- The InterruptDisable flag: it makes `irq()` a no-op, `irq()` and `nmi()` leave it set, only a reset clears it, no
system clock, and so no instruction, writes it, and it is 0 after reset (R28). Tier 3. -/
def Obligations.MaskSetUntilReset : Prop :=
  (∀ s t : State, step s = .next t →
    (s.pending = [] → getFlag .interruptDisable t.p = getFlag .interruptDisable s.p) ∧
    (∀ rest, s.pending = .irq :: rest → getFlag .interruptDisable t.p = true) ∧
    (∀ rest, s.pending = .irq :: rest → getFlag .interruptDisable s.p = true → t = { s with pending := rest }) ∧
    (∀ rest, s.pending = .nmi :: rest → getFlag .interruptDisable t.p = true) ∧
    (∀ rest, s.pending = .reset :: rest → getFlag .interruptDisable t.p = false) ∧
    (getFlag .interruptDisable s.p = true → (∀ rest, s.pending ≠ .reset :: rest) →
      getFlag .interruptDisable t.p = true)) ∧
  getFlag .interruptDisable State.reset.p = false

/-- SP moves only by reset and by interrupt entry: no instruction reads or writes it (R23, R309, R319). Tier 3. -/
def Obligations.StackPointerMovesOnlyByEntryAndReset : Prop :=
  ∀ s t : State, step s = .next t → t.sp ≠ s.sp →
    ∃ rest, s.pending = .reset :: rest ∨ s.pending = .irq :: rest ∨ s.pending = .nmi :: rest

/-- RAM is changed only by a store instruction's fetch tick, by interrupt entry, and by the driver's own bus write. A
step that changed RAM is a system clock in a CPU slot with no transfer active and the count-down at zero, so a fetch
tick, and the opcode fetched in it is a store's; or a taken `irq()`; or an `nmi()`; or the driver's bus write to the RAM
window (R40, R52, R244, R258, R302-R304, R341). Tier 3. -/
def Obligations.RamChangesOnlyByStores : Prop :=
  ∀ s t : State, step s = .next t → t.ram ≠ s.ram →
    ((s.pending = [] ∨ ∃ rest, s.pending = .clock :: rest) ∧
      s.clockCount % 3 = 0 ∧ s.dmaActive = false ∧ s.cycles = 0#8 ∧
      t.opcode = (memRead s.pc (pictureClock s)).1 ∧ ∃ r, (DESC t.opcode).handler = .store r) ∨
    (∃ rest, s.pending = .irq :: rest ∧ getFlag .interruptDisable s.p = false) ∨
    (∃ rest, s.pending = .nmi :: rest) ∨
    (∃ a v rest, s.pending = .busWrite a v :: rest ∧ a ≤ 0x1FFF#16)

/-- Every step answers a next state: the hardware has no failure outcome and no opcode stops it (R140, R233, R258,
R300). Tier 2. -/
def Obligations.EveryStepCompletes : Prop :=
  ∀ s : State, ∃ t, step s = .next t
end

