-- ==== Sys2Proof/Laws/Memory.lean ====
section
/-!
SUPPORT. Laws/Memory.lean: a cell reads back what was written, a write leaves every other cell alone, and every
operation keeps the canonical form.
-/

namespace Sys2Proof.Machine

/-! ## Finding a cell -/

theorem cellsFind_insert (i j : Nat) (v : Byte) (m : Cells) :
    cellsFind j (cellsInsert i v m) = if i = j then some v else cellsFind j m := by
  induction m with
  | nil => simp [cellsInsert, cellsFind]
  | cons c rest ih =>
    by_cases h1 : i < c.1
    · simp [cellsInsert, h1, cellsFind]
    · by_cases h2 : i = c.1
      · by_cases hj : i = j
        · simp [cellsInsert, ← h2, cellsFind, hj]
        · simp [cellsInsert, ← h2, cellsFind, hj]
      · have e : cellsInsert i v (c :: rest) = c :: cellsInsert i v rest := by simp [cellsInsert, h1, h2]
        rw [e]
        by_cases hj : c.1 = j
        · have hij : ¬ i = j := by omega
          simp [cellsFind, hj, hij]
        · simp [cellsFind, hj, ih]

theorem rising_weaken {lo lo' : Nat} {m : Cells} (h : cellsRising lo m = true) (hle : lo' ≤ lo) :
    cellsRising lo' m = true := by
  cases m with
  | nil => rfl
  | cons c rest => simp only [cellsRising, Bool.and_eq_true, decide_eq_true_eq] at h ⊢; exact ⟨by omega, h.2⟩

theorem cellsFind_below {lo i : Nat} {m : Cells} (h : cellsRising lo m = true) (hi : i < lo) :
    cellsFind i m = none := by
  induction m generalizing lo with
  | nil => rfl
  | cons c rest ih =>
    simp only [cellsRising, Bool.and_eq_true, decide_eq_true_eq] at h
    have hne : c.1 ≠ i := by omega
    simp only [cellsFind, hne, if_false]
    exact ih h.2 (by omega)

theorem cellsFind_erase {lo : Nat} (i j : Nat) {m : Cells} (h : cellsRising lo m = true) :
    cellsFind j (cellsErase i m) = if i = j then none else cellsFind j m := by
  induction m generalizing lo with
  | nil => simp [cellsErase, cellsFind]
  | cons c rest ih =>
    simp only [cellsRising, Bool.and_eq_true, decide_eq_true_eq] at h
    by_cases hc : c.1 = i
    · by_cases hj : i = j
      · subst hc; subst hj
        simp [cellsErase, cellsFind_below h.2 (Nat.lt_succ_self _)]
      · have : ¬ c.1 = j := by omega
        simp [cellsErase, hc, hj, cellsFind]
    · have e : cellsErase i (c :: rest) = c :: cellsErase i rest := by simp [cellsErase, hc]
      rw [e]
      by_cases hj : c.1 = j
      · have hij : ¬ i = j := by omega
        simp [cellsFind, hj, hij]
      · simp [cellsFind, hj, ih h.2]

/-! ## Reading after writing -/

theorem unlistable_eq {r : Region} {v : Byte} (h : unlistable r v = true) (i : Nat) : unlistedByte r i = v := by
  cases r <;> simp_all [unlistable, unlistedByte]

theorem cellsRead_write {lo : Nat} (r : Region) (i j : Nat) (v : Byte) {m : Cells} (h : cellsRising lo m = true) :
    cellsRead r j (cellsWrite r i v m) = if i = j then v else cellsRead r j m := by
  unfold cellsRead cellsWrite
  by_cases hu : unlistable r v = true
  · rw [if_pos hu, cellsFind_erase i j h]
    by_cases hij : i = j <;> simp [hij, unlistable_eq hu]
  · by_cases hij : i = j <;> simp [hu, cellsFind_insert, hij]

theorem cellsRead_write_ram (i j : Nat) (v : Byte) (m : Cells) :
    cellsRead .ram j (cellsWrite .ram i v m) = if i = j then v else cellsRead .ram j m := by
  unfold cellsRead cellsWrite
  by_cases hij : i = j <;> simp [unlistable, cellsFind_insert, hij]

theorem cellsRead_write_chrRam (i j : Nat) (v : Byte) (m : Cells) :
    cellsRead .chrRam j (cellsWrite .chrRam i v m) = if i = j then v else cellsRead .chrRam j m := by
  unfold cellsRead cellsWrite
  by_cases hij : i = j <;> simp [unlistable, cellsFind_insert, hij]

/-! ## The canonical form -/

theorem rising_insert {lo i : Nat} {v : Byte} {m : Cells} (h : cellsRising lo m = true) (hi : lo ≤ i) :
    cellsRising lo (cellsInsert i v m) = true := by
  induction m generalizing lo with
  | nil => simp [cellsInsert, cellsRising, hi]
  | cons c rest ih =>
    simp only [cellsRising, Bool.and_eq_true, decide_eq_true_eq] at h
    unfold cellsInsert
    split_ifs with h1 h2
    · simp only [cellsRising, Bool.and_eq_true, decide_eq_true_eq]
      exact ⟨hi, by omega, h.2⟩
    · subst h2
      simp only [cellsRising, Bool.and_eq_true, decide_eq_true_eq]
      exact ⟨hi, h.2⟩
    · simp only [cellsRising, Bool.and_eq_true, decide_eq_true_eq]
      exact ⟨h.1, ih h.2 (by omega)⟩

theorem rising_erase {lo i : Nat} {m : Cells} (h : cellsRising lo m = true) :
    cellsRising lo (cellsErase i m) = true := by
  induction m generalizing lo with
  | nil => rfl
  | cons c rest ih =>
    simp only [cellsRising, Bool.and_eq_true, decide_eq_true_eq] at h
    unfold cellsErase
    split_ifs with h1
    · exact rising_weaken h.2 (by omega)
    · simp only [cellsRising, Bool.and_eq_true, decide_eq_true_eq]
      exact ⟨h.1, ih h.2⟩

theorem all_insert {f : Host.Cell → Bool} {i : Nat} {v : Byte} {m : Cells} (h : m.all f = true) (hv : f (i, v) = true) :
    (cellsInsert i v m).all f = true := by
  induction m with
  | nil => simp [cellsInsert, hv]
  | cons c rest ih =>
    simp only [List.all_cons, Bool.and_eq_true] at h
    unfold cellsInsert
    split_ifs <;> simp [h.1, h.2, hv, ih h.2]

theorem all_erase {f : Host.Cell → Bool} {i : Nat} {m : Cells} (h : m.all f = true) :
    (cellsErase i m).all f = true := by
  induction m with
  | nil => rfl
  | cons c rest ih =>
    simp only [List.all_cons, Bool.and_eq_true] at h
    unfold cellsErase
    split_ifs <;> simp [h.1, h.2, ih h.2]

/-- A write inside the array keeps the canonical form. -/
theorem cellsWf_write {r : Region} {n i : Nat} {v : Byte} {m : Cells} (h : cellsWf r n m = true) (hi : i < n) :
    cellsWf r n (cellsWrite r i v m) = true := by
  simp only [cellsWf, Bool.and_eq_true] at h ⊢
  unfold cellsWrite
  by_cases hu : unlistable r v = true
  · simp only [hu, if_true]; exact ⟨rising_erase h.1, all_erase h.2⟩
  · simp only [hu, Bool.false_eq_true, if_false]
    refine ⟨rising_insert h.1 (Nat.zero_le _), all_insert h.2 ?_⟩
    simp [hi, hu]

theorem rising_slice {lo l n : Nat} {m : Cells} (h : cellsRising l m = true) :
    cellsRising (l - lo) (cellsSlice lo n m) = true := by
  induction m generalizing l with
  | nil => rfl
  | cons c rest ih =>
    simp only [cellsRising, Bool.and_eq_true, decide_eq_true_eq] at h
    unfold cellsSlice
    split_ifs with hc
    · simp only [cellsRising, Bool.and_eq_true, decide_eq_true_eq]
      refine ⟨by omega, ?_⟩
      have := ih h.2
      rwa [show c.1 + 1 - lo = c.1 - lo + 1 by omega] at this
    · exact rising_weaken (ih h.2) (by omega)

/-- An array copied out of an image in canonical form is in canonical form. -/
theorem cellsWf_slice {lo n k : Nat} {m : Cells} (h : cellsWf .rom k m = true) :
    cellsWf .rom n (cellsSlice lo n m) = true := by
  simp only [cellsWf, Bool.and_eq_true] at h ⊢
  refine ⟨by simpa using rising_slice (lo := lo) (n := n) h.1, ?_⟩
  have h2 := h.2
  clear h
  induction m with
  | nil => rfl
  | cons c rest ih =>
    simp only [List.all_cons, Bool.and_eq_true] at h2
    unfold cellsSlice
    split_ifs with hc
    · simp only [List.all_cons, Bool.and_eq_true]
      refine ⟨?_, ih h2.2⟩
      simp only [decide_eq_true_eq, Bool.not_eq_true'] at h2 ⊢
      exact ⟨by omega, h2.1.2⟩
    · exact ih h2.2

/-- The empty array is in canonical form: nothing written to RAM or CHR-RAM. -/
theorem cellsWf_nil (r : Region) (n : Nat) : cellsWf r n [] = true := rfl

/-- An array copied out of an image holds the image's bytes. -/
theorem cellsFind_slice {lo n i : Nat} {m : Cells} (hi : i < n) :
    cellsFind i (cellsSlice lo n m) = cellsFind (lo + i) m := by
  induction m with
  | nil => rfl
  | cons c rest ih =>
    unfold cellsSlice
    by_cases hc : lo ≤ c.1 ∧ c.1 < lo + n
    · by_cases he : c.1 = lo + i
      · have : c.1 - lo = i := by omega
        simp [he, cellsFind, hi]
      · have : ¬ c.1 - lo = i := by omega
        simp [hc, he, cellsFind, this, ih]
    · have : ¬ c.1 = lo + i := by omega
      simp [hc, cellsFind, this, ih]

theorem cellsRead_slice {lo n i : Nat} {m : Cells} (hi : i < n) :
    cellsRead .rom i (cellsSlice lo n m) = cellsRead .rom (lo + i) m := by
  simp [cellsRead, cellsFind_slice hi, unlistedByte]

end Sys2Proof.Machine
end

