-- ==== Sys2Proof/Laws/State.lean ====
section
/-!
SUPPORT. Laws/State.lean: what each named update of the state leaves in each field.
-/

namespace Sys2Proof.Machine

variable (s : State)

/-! ### setPc -/

@[simp] theorem setPc_a (w : Word) : (setPc w s).a = s.a := rfl
@[simp] theorem setPc_x (w : Word) : (setPc w s).x = s.x := rfl
@[simp] theorem setPc_y (w : Word) : (setPc w s).y = s.y := rfl
@[simp] theorem setPc_sp (w : Word) : (setPc w s).sp = s.sp := rfl
@[simp] theorem setPc_pc (w : Word) : (setPc w s).pc = w := rfl
@[simp] theorem setPc_p (w : Word) : (setPc w s).p = s.p := rfl
@[simp] theorem setPc_opcode (w : Word) : (setPc w s).opcode = s.opcode := rfl
@[simp] theorem setPc_cycles (w : Word) : (setPc w s).cycles = s.cycles := rfl
@[simp] theorem setPc_totalClocks (w : Word) : (setPc w s).totalClocks = s.totalClocks := rfl
@[simp] theorem setPc_branchTaken (w : Word) : (setPc w s).branchTaken = s.branchTaken := rfl
@[simp] theorem setPc_pageCrossed (w : Word) : (setPc w s).pageCrossed = s.pageCrossed := rfl
@[simp] theorem setPc_ram (w : Word) : (setPc w s).ram = s.ram := rfl
@[simp] theorem setPc_cart (w : Word) : (setPc w s).cart = s.cart := rfl
@[simp] theorem setPc_clockCount (w : Word) : (setPc w s).clockCount = s.clockCount := rfl
@[simp] theorem setPc_dmaActive (w : Word) : (setPc w s).dmaActive = s.dmaActive := rfl
@[simp] theorem setPc_dmaPage (w : Word) : (setPc w s).dmaPage = s.dmaPage := rfl
@[simp] theorem setPc_dmaCursor (w : Word) : (setPc w s).dmaCursor = s.dmaCursor := rfl
@[simp] theorem setPc_dmaStaging (w : Word) : (setPc w s).dmaStaging = s.dmaStaging := rfl
@[simp] theorem setPc_dmaPhase (w : Word) : (setPc w s).dmaPhase = s.dmaPhase := rfl
@[simp] theorem setPc_picture (w : Word) : (setPc w s).picture = s.picture := rfl
@[simp] theorem setPc_sound (w : Word) : (setPc w s).sound = s.sound := rfl
@[simp] theorem setPc_pending (w : Word) : (setPc w s).pending = s.pending := rfl
@[simp] theorem setPc_reply (w : Word) : (setPc w s).reply = s.reply := rfl
@[simp] theorem setPc_outOfContract (w : Word) : (setPc w s).outOfContract = s.outOfContract := rfl

/-! ### setSp -/

@[simp] theorem setSp_a (v : Byte) : (setSp v s).a = s.a := rfl
@[simp] theorem setSp_x (v : Byte) : (setSp v s).x = s.x := rfl
@[simp] theorem setSp_y (v : Byte) : (setSp v s).y = s.y := rfl
@[simp] theorem setSp_sp (v : Byte) : (setSp v s).sp = v := rfl
@[simp] theorem setSp_pc (v : Byte) : (setSp v s).pc = s.pc := rfl
@[simp] theorem setSp_p (v : Byte) : (setSp v s).p = s.p := rfl
@[simp] theorem setSp_opcode (v : Byte) : (setSp v s).opcode = s.opcode := rfl
@[simp] theorem setSp_cycles (v : Byte) : (setSp v s).cycles = s.cycles := rfl
@[simp] theorem setSp_totalClocks (v : Byte) : (setSp v s).totalClocks = s.totalClocks := rfl
@[simp] theorem setSp_branchTaken (v : Byte) : (setSp v s).branchTaken = s.branchTaken := rfl
@[simp] theorem setSp_pageCrossed (v : Byte) : (setSp v s).pageCrossed = s.pageCrossed := rfl
@[simp] theorem setSp_ram (v : Byte) : (setSp v s).ram = s.ram := rfl
@[simp] theorem setSp_cart (v : Byte) : (setSp v s).cart = s.cart := rfl
@[simp] theorem setSp_clockCount (v : Byte) : (setSp v s).clockCount = s.clockCount := rfl
@[simp] theorem setSp_dmaActive (v : Byte) : (setSp v s).dmaActive = s.dmaActive := rfl
@[simp] theorem setSp_dmaPage (v : Byte) : (setSp v s).dmaPage = s.dmaPage := rfl
@[simp] theorem setSp_dmaCursor (v : Byte) : (setSp v s).dmaCursor = s.dmaCursor := rfl
@[simp] theorem setSp_dmaStaging (v : Byte) : (setSp v s).dmaStaging = s.dmaStaging := rfl
@[simp] theorem setSp_dmaPhase (v : Byte) : (setSp v s).dmaPhase = s.dmaPhase := rfl
@[simp] theorem setSp_picture (v : Byte) : (setSp v s).picture = s.picture := rfl
@[simp] theorem setSp_sound (v : Byte) : (setSp v s).sound = s.sound := rfl
@[simp] theorem setSp_pending (v : Byte) : (setSp v s).pending = s.pending := rfl
@[simp] theorem setSp_reply (v : Byte) : (setSp v s).reply = s.reply := rfl
@[simp] theorem setSp_outOfContract (v : Byte) : (setSp v s).outOfContract = s.outOfContract := rfl

/-! ### setP -/

@[simp] theorem setP_a (v : Byte) : (setP v s).a = s.a := rfl
@[simp] theorem setP_x (v : Byte) : (setP v s).x = s.x := rfl
@[simp] theorem setP_y (v : Byte) : (setP v s).y = s.y := rfl
@[simp] theorem setP_sp (v : Byte) : (setP v s).sp = s.sp := rfl
@[simp] theorem setP_pc (v : Byte) : (setP v s).pc = s.pc := rfl
@[simp] theorem setP_p (v : Byte) : (setP v s).p = v := rfl
@[simp] theorem setP_opcode (v : Byte) : (setP v s).opcode = s.opcode := rfl
@[simp] theorem setP_cycles (v : Byte) : (setP v s).cycles = s.cycles := rfl
@[simp] theorem setP_totalClocks (v : Byte) : (setP v s).totalClocks = s.totalClocks := rfl
@[simp] theorem setP_branchTaken (v : Byte) : (setP v s).branchTaken = s.branchTaken := rfl
@[simp] theorem setP_pageCrossed (v : Byte) : (setP v s).pageCrossed = s.pageCrossed := rfl
@[simp] theorem setP_ram (v : Byte) : (setP v s).ram = s.ram := rfl
@[simp] theorem setP_cart (v : Byte) : (setP v s).cart = s.cart := rfl
@[simp] theorem setP_clockCount (v : Byte) : (setP v s).clockCount = s.clockCount := rfl
@[simp] theorem setP_dmaActive (v : Byte) : (setP v s).dmaActive = s.dmaActive := rfl
@[simp] theorem setP_dmaPage (v : Byte) : (setP v s).dmaPage = s.dmaPage := rfl
@[simp] theorem setP_dmaCursor (v : Byte) : (setP v s).dmaCursor = s.dmaCursor := rfl
@[simp] theorem setP_dmaStaging (v : Byte) : (setP v s).dmaStaging = s.dmaStaging := rfl
@[simp] theorem setP_dmaPhase (v : Byte) : (setP v s).dmaPhase = s.dmaPhase := rfl
@[simp] theorem setP_picture (v : Byte) : (setP v s).picture = s.picture := rfl
@[simp] theorem setP_sound (v : Byte) : (setP v s).sound = s.sound := rfl
@[simp] theorem setP_pending (v : Byte) : (setP v s).pending = s.pending := rfl
@[simp] theorem setP_reply (v : Byte) : (setP v s).reply = s.reply := rfl
@[simp] theorem setP_outOfContract (v : Byte) : (setP v s).outOfContract = s.outOfContract := rfl

/-! ### setCycles -/

@[simp] theorem setCycles_a (n : Byte) : (setCycles n s).a = s.a := rfl
@[simp] theorem setCycles_x (n : Byte) : (setCycles n s).x = s.x := rfl
@[simp] theorem setCycles_y (n : Byte) : (setCycles n s).y = s.y := rfl
@[simp] theorem setCycles_sp (n : Byte) : (setCycles n s).sp = s.sp := rfl
@[simp] theorem setCycles_pc (n : Byte) : (setCycles n s).pc = s.pc := rfl
@[simp] theorem setCycles_p (n : Byte) : (setCycles n s).p = s.p := rfl
@[simp] theorem setCycles_opcode (n : Byte) : (setCycles n s).opcode = s.opcode := rfl
@[simp] theorem setCycles_cycles (n : Byte) : (setCycles n s).cycles = n := rfl
@[simp] theorem setCycles_totalClocks (n : Byte) : (setCycles n s).totalClocks = s.totalClocks := rfl
@[simp] theorem setCycles_branchTaken (n : Byte) : (setCycles n s).branchTaken = s.branchTaken := rfl
@[simp] theorem setCycles_pageCrossed (n : Byte) : (setCycles n s).pageCrossed = s.pageCrossed := rfl
@[simp] theorem setCycles_ram (n : Byte) : (setCycles n s).ram = s.ram := rfl
@[simp] theorem setCycles_cart (n : Byte) : (setCycles n s).cart = s.cart := rfl
@[simp] theorem setCycles_clockCount (n : Byte) : (setCycles n s).clockCount = s.clockCount := rfl
@[simp] theorem setCycles_dmaActive (n : Byte) : (setCycles n s).dmaActive = s.dmaActive := rfl
@[simp] theorem setCycles_dmaPage (n : Byte) : (setCycles n s).dmaPage = s.dmaPage := rfl
@[simp] theorem setCycles_dmaCursor (n : Byte) : (setCycles n s).dmaCursor = s.dmaCursor := rfl
@[simp] theorem setCycles_dmaStaging (n : Byte) : (setCycles n s).dmaStaging = s.dmaStaging := rfl
@[simp] theorem setCycles_dmaPhase (n : Byte) : (setCycles n s).dmaPhase = s.dmaPhase := rfl
@[simp] theorem setCycles_picture (n : Byte) : (setCycles n s).picture = s.picture := rfl
@[simp] theorem setCycles_sound (n : Byte) : (setCycles n s).sound = s.sound := rfl
@[simp] theorem setCycles_pending (n : Byte) : (setCycles n s).pending = s.pending := rfl
@[simp] theorem setCycles_reply (n : Byte) : (setCycles n s).reply = s.reply := rfl
@[simp] theorem setCycles_outOfContract (n : Byte) : (setCycles n s).outOfContract = s.outOfContract := rfl

/-! ### setPageCrossed -/

@[simp] theorem setPageCrossed_a (b : Bool) : (setPageCrossed b s).a = s.a := rfl
@[simp] theorem setPageCrossed_x (b : Bool) : (setPageCrossed b s).x = s.x := rfl
@[simp] theorem setPageCrossed_y (b : Bool) : (setPageCrossed b s).y = s.y := rfl
@[simp] theorem setPageCrossed_sp (b : Bool) : (setPageCrossed b s).sp = s.sp := rfl
@[simp] theorem setPageCrossed_pc (b : Bool) : (setPageCrossed b s).pc = s.pc := rfl
@[simp] theorem setPageCrossed_p (b : Bool) : (setPageCrossed b s).p = s.p := rfl
@[simp] theorem setPageCrossed_opcode (b : Bool) : (setPageCrossed b s).opcode = s.opcode := rfl
@[simp] theorem setPageCrossed_cycles (b : Bool) : (setPageCrossed b s).cycles = s.cycles := rfl
@[simp] theorem setPageCrossed_totalClocks (b : Bool) : (setPageCrossed b s).totalClocks = s.totalClocks := rfl
@[simp] theorem setPageCrossed_branchTaken (b : Bool) : (setPageCrossed b s).branchTaken = s.branchTaken := rfl
@[simp] theorem setPageCrossed_pageCrossed (b : Bool) : (setPageCrossed b s).pageCrossed = b := rfl
@[simp] theorem setPageCrossed_ram (b : Bool) : (setPageCrossed b s).ram = s.ram := rfl
@[simp] theorem setPageCrossed_cart (b : Bool) : (setPageCrossed b s).cart = s.cart := rfl
@[simp] theorem setPageCrossed_clockCount (b : Bool) : (setPageCrossed b s).clockCount = s.clockCount := rfl
@[simp] theorem setPageCrossed_dmaActive (b : Bool) : (setPageCrossed b s).dmaActive = s.dmaActive := rfl
@[simp] theorem setPageCrossed_dmaPage (b : Bool) : (setPageCrossed b s).dmaPage = s.dmaPage := rfl
@[simp] theorem setPageCrossed_dmaCursor (b : Bool) : (setPageCrossed b s).dmaCursor = s.dmaCursor := rfl
@[simp] theorem setPageCrossed_dmaStaging (b : Bool) : (setPageCrossed b s).dmaStaging = s.dmaStaging := rfl
@[simp] theorem setPageCrossed_dmaPhase (b : Bool) : (setPageCrossed b s).dmaPhase = s.dmaPhase := rfl
@[simp] theorem setPageCrossed_picture (b : Bool) : (setPageCrossed b s).picture = s.picture := rfl
@[simp] theorem setPageCrossed_sound (b : Bool) : (setPageCrossed b s).sound = s.sound := rfl
@[simp] theorem setPageCrossed_pending (b : Bool) : (setPageCrossed b s).pending = s.pending := rfl
@[simp] theorem setPageCrossed_reply (b : Bool) : (setPageCrossed b s).reply = s.reply := rfl
@[simp] theorem setPageCrossed_outOfContract (b : Bool) : (setPageCrossed b s).outOfContract = s.outOfContract := rfl

/-! ### startInstr -/

@[simp] theorem startInstr_a (op : Byte) (len : Word) : (startInstr op len s).a = s.a := rfl
@[simp] theorem startInstr_x (op : Byte) (len : Word) : (startInstr op len s).x = s.x := rfl
@[simp] theorem startInstr_y (op : Byte) (len : Word) : (startInstr op len s).y = s.y := rfl
@[simp] theorem startInstr_sp (op : Byte) (len : Word) : (startInstr op len s).sp = s.sp := rfl
@[simp] theorem startInstr_pc (op : Byte) (len : Word) : (startInstr op len s).pc = s.pc + len := rfl
@[simp] theorem startInstr_p (op : Byte) (len : Word) : (startInstr op len s).p = s.p := rfl
@[simp] theorem startInstr_opcode (op : Byte) (len : Word) : (startInstr op len s).opcode = op := rfl
@[simp] theorem startInstr_cycles (op : Byte) (len : Word) : (startInstr op len s).cycles = s.cycles := rfl
@[simp] theorem startInstr_totalClocks (op : Byte) (len : Word) : (startInstr op len s).totalClocks = s.totalClocks := rfl
@[simp] theorem startInstr_branchTaken (op : Byte) (len : Word) : (startInstr op len s).branchTaken = false := rfl
@[simp] theorem startInstr_pageCrossed (op : Byte) (len : Word) : (startInstr op len s).pageCrossed = false := rfl
@[simp] theorem startInstr_ram (op : Byte) (len : Word) : (startInstr op len s).ram = s.ram := rfl
@[simp] theorem startInstr_cart (op : Byte) (len : Word) : (startInstr op len s).cart = s.cart := rfl
@[simp] theorem startInstr_clockCount (op : Byte) (len : Word) : (startInstr op len s).clockCount = s.clockCount := rfl
@[simp] theorem startInstr_dmaActive (op : Byte) (len : Word) : (startInstr op len s).dmaActive = s.dmaActive := rfl
@[simp] theorem startInstr_dmaPage (op : Byte) (len : Word) : (startInstr op len s).dmaPage = s.dmaPage := rfl
@[simp] theorem startInstr_dmaCursor (op : Byte) (len : Word) : (startInstr op len s).dmaCursor = s.dmaCursor := rfl
@[simp] theorem startInstr_dmaStaging (op : Byte) (len : Word) : (startInstr op len s).dmaStaging = s.dmaStaging := rfl
@[simp] theorem startInstr_dmaPhase (op : Byte) (len : Word) : (startInstr op len s).dmaPhase = s.dmaPhase := rfl
@[simp] theorem startInstr_picture (op : Byte) (len : Word) : (startInstr op len s).picture = s.picture := rfl
@[simp] theorem startInstr_sound (op : Byte) (len : Word) : (startInstr op len s).sound = s.sound := rfl
@[simp] theorem startInstr_pending (op : Byte) (len : Word) : (startInstr op len s).pending = s.pending := rfl
@[simp] theorem startInstr_reply (op : Byte) (len : Word) : (startInstr op len s).reply = s.reply := rfl
@[simp] theorem startInstr_outOfContract (op : Byte) (len : Word) : (startInstr op len s).outOfContract = s.outOfContract := rfl

/-! ### takeBranch -/

@[simp] theorem takeBranch_a (w : Word) (b : Bool) : (takeBranch w b s).a = s.a := rfl
@[simp] theorem takeBranch_x (w : Word) (b : Bool) : (takeBranch w b s).x = s.x := rfl
@[simp] theorem takeBranch_y (w : Word) (b : Bool) : (takeBranch w b s).y = s.y := rfl
@[simp] theorem takeBranch_sp (w : Word) (b : Bool) : (takeBranch w b s).sp = s.sp := rfl
@[simp] theorem takeBranch_pc (w : Word) (b : Bool) : (takeBranch w b s).pc = w := rfl
@[simp] theorem takeBranch_p (w : Word) (b : Bool) : (takeBranch w b s).p = s.p := rfl
@[simp] theorem takeBranch_opcode (w : Word) (b : Bool) : (takeBranch w b s).opcode = s.opcode := rfl
@[simp] theorem takeBranch_cycles (w : Word) (b : Bool) : (takeBranch w b s).cycles = s.cycles := rfl
@[simp] theorem takeBranch_totalClocks (w : Word) (b : Bool) : (takeBranch w b s).totalClocks = s.totalClocks := rfl
@[simp] theorem takeBranch_branchTaken (w : Word) (b : Bool) : (takeBranch w b s).branchTaken = true := rfl
@[simp] theorem takeBranch_pageCrossed (w : Word) (b : Bool) : (takeBranch w b s).pageCrossed = b := rfl
@[simp] theorem takeBranch_ram (w : Word) (b : Bool) : (takeBranch w b s).ram = s.ram := rfl
@[simp] theorem takeBranch_cart (w : Word) (b : Bool) : (takeBranch w b s).cart = s.cart := rfl
@[simp] theorem takeBranch_clockCount (w : Word) (b : Bool) : (takeBranch w b s).clockCount = s.clockCount := rfl
@[simp] theorem takeBranch_dmaActive (w : Word) (b : Bool) : (takeBranch w b s).dmaActive = s.dmaActive := rfl
@[simp] theorem takeBranch_dmaPage (w : Word) (b : Bool) : (takeBranch w b s).dmaPage = s.dmaPage := rfl
@[simp] theorem takeBranch_dmaCursor (w : Word) (b : Bool) : (takeBranch w b s).dmaCursor = s.dmaCursor := rfl
@[simp] theorem takeBranch_dmaStaging (w : Word) (b : Bool) : (takeBranch w b s).dmaStaging = s.dmaStaging := rfl
@[simp] theorem takeBranch_dmaPhase (w : Word) (b : Bool) : (takeBranch w b s).dmaPhase = s.dmaPhase := rfl
@[simp] theorem takeBranch_picture (w : Word) (b : Bool) : (takeBranch w b s).picture = s.picture := rfl
@[simp] theorem takeBranch_sound (w : Word) (b : Bool) : (takeBranch w b s).sound = s.sound := rfl
@[simp] theorem takeBranch_pending (w : Word) (b : Bool) : (takeBranch w b s).pending = s.pending := rfl
@[simp] theorem takeBranch_reply (w : Word) (b : Bool) : (takeBranch w b s).reply = s.reply := rfl
@[simp] theorem takeBranch_outOfContract (w : Word) (b : Bool) : (takeBranch w b s).outOfContract = s.outOfContract := rfl

/-! ### pictureCall -/

@[simp] theorem pictureCall_a (k : PictureCall) : (pictureCall k s).a = s.a := rfl
@[simp] theorem pictureCall_x (k : PictureCall) : (pictureCall k s).x = s.x := rfl
@[simp] theorem pictureCall_y (k : PictureCall) : (pictureCall k s).y = s.y := rfl
@[simp] theorem pictureCall_sp (k : PictureCall) : (pictureCall k s).sp = s.sp := rfl
@[simp] theorem pictureCall_pc (k : PictureCall) : (pictureCall k s).pc = s.pc := rfl
@[simp] theorem pictureCall_p (k : PictureCall) : (pictureCall k s).p = s.p := rfl
@[simp] theorem pictureCall_opcode (k : PictureCall) : (pictureCall k s).opcode = s.opcode := rfl
@[simp] theorem pictureCall_cycles (k : PictureCall) : (pictureCall k s).cycles = s.cycles := rfl
@[simp] theorem pictureCall_totalClocks (k : PictureCall) : (pictureCall k s).totalClocks = s.totalClocks := rfl
@[simp] theorem pictureCall_branchTaken (k : PictureCall) : (pictureCall k s).branchTaken = s.branchTaken := rfl
@[simp] theorem pictureCall_pageCrossed (k : PictureCall) : (pictureCall k s).pageCrossed = s.pageCrossed := rfl
@[simp] theorem pictureCall_ram (k : PictureCall) : (pictureCall k s).ram = s.ram := rfl
@[simp] theorem pictureCall_cart (k : PictureCall) : (pictureCall k s).cart = s.cart := rfl
@[simp] theorem pictureCall_clockCount (k : PictureCall) : (pictureCall k s).clockCount = s.clockCount := rfl
@[simp] theorem pictureCall_dmaActive (k : PictureCall) : (pictureCall k s).dmaActive = s.dmaActive := rfl
@[simp] theorem pictureCall_dmaPage (k : PictureCall) : (pictureCall k s).dmaPage = s.dmaPage := rfl
@[simp] theorem pictureCall_dmaCursor (k : PictureCall) : (pictureCall k s).dmaCursor = s.dmaCursor := rfl
@[simp] theorem pictureCall_dmaStaging (k : PictureCall) : (pictureCall k s).dmaStaging = s.dmaStaging := rfl
@[simp] theorem pictureCall_dmaPhase (k : PictureCall) : (pictureCall k s).dmaPhase = s.dmaPhase := rfl
@[simp] theorem pictureCall_picture (k : PictureCall) : (pictureCall k s).picture = ⟨s.picture.ticks, (s.picture.ticks, k) :: s.picture.calls⟩ := rfl
@[simp] theorem pictureCall_sound (k : PictureCall) : (pictureCall k s).sound = s.sound := rfl
@[simp] theorem pictureCall_pending (k : PictureCall) : (pictureCall k s).pending = s.pending := rfl
@[simp] theorem pictureCall_reply (k : PictureCall) : (pictureCall k s).reply = s.reply := rfl
@[simp] theorem pictureCall_outOfContract (k : PictureCall) : (pictureCall k s).outOfContract = s.outOfContract := rfl

/-! ### soundCall -/

@[simp] theorem soundCall_a (k : SoundCall) : (soundCall k s).a = s.a := rfl
@[simp] theorem soundCall_x (k : SoundCall) : (soundCall k s).x = s.x := rfl
@[simp] theorem soundCall_y (k : SoundCall) : (soundCall k s).y = s.y := rfl
@[simp] theorem soundCall_sp (k : SoundCall) : (soundCall k s).sp = s.sp := rfl
@[simp] theorem soundCall_pc (k : SoundCall) : (soundCall k s).pc = s.pc := rfl
@[simp] theorem soundCall_p (k : SoundCall) : (soundCall k s).p = s.p := rfl
@[simp] theorem soundCall_opcode (k : SoundCall) : (soundCall k s).opcode = s.opcode := rfl
@[simp] theorem soundCall_cycles (k : SoundCall) : (soundCall k s).cycles = s.cycles := rfl
@[simp] theorem soundCall_totalClocks (k : SoundCall) : (soundCall k s).totalClocks = s.totalClocks := rfl
@[simp] theorem soundCall_branchTaken (k : SoundCall) : (soundCall k s).branchTaken = s.branchTaken := rfl
@[simp] theorem soundCall_pageCrossed (k : SoundCall) : (soundCall k s).pageCrossed = s.pageCrossed := rfl
@[simp] theorem soundCall_ram (k : SoundCall) : (soundCall k s).ram = s.ram := rfl
@[simp] theorem soundCall_cart (k : SoundCall) : (soundCall k s).cart = s.cart := rfl
@[simp] theorem soundCall_clockCount (k : SoundCall) : (soundCall k s).clockCount = s.clockCount := rfl
@[simp] theorem soundCall_dmaActive (k : SoundCall) : (soundCall k s).dmaActive = s.dmaActive := rfl
@[simp] theorem soundCall_dmaPage (k : SoundCall) : (soundCall k s).dmaPage = s.dmaPage := rfl
@[simp] theorem soundCall_dmaCursor (k : SoundCall) : (soundCall k s).dmaCursor = s.dmaCursor := rfl
@[simp] theorem soundCall_dmaStaging (k : SoundCall) : (soundCall k s).dmaStaging = s.dmaStaging := rfl
@[simp] theorem soundCall_dmaPhase (k : SoundCall) : (soundCall k s).dmaPhase = s.dmaPhase := rfl
@[simp] theorem soundCall_picture (k : SoundCall) : (soundCall k s).picture = s.picture := rfl
@[simp] theorem soundCall_sound (k : SoundCall) : (soundCall k s).sound = ⟨s.sound.ticks, (s.sound.ticks, k) :: s.sound.calls⟩ := rfl
@[simp] theorem soundCall_pending (k : SoundCall) : (soundCall k s).pending = s.pending := rfl
@[simp] theorem soundCall_reply (k : SoundCall) : (soundCall k s).reply = s.reply := rfl
@[simp] theorem soundCall_outOfContract (k : SoundCall) : (soundCall k s).outOfContract = s.outOfContract := rfl

/-! ### pictureClock -/

@[simp] theorem pictureClock_a : (pictureClock s).a = s.a := rfl
@[simp] theorem pictureClock_x : (pictureClock s).x = s.x := rfl
@[simp] theorem pictureClock_y : (pictureClock s).y = s.y := rfl
@[simp] theorem pictureClock_sp : (pictureClock s).sp = s.sp := rfl
@[simp] theorem pictureClock_pc : (pictureClock s).pc = s.pc := rfl
@[simp] theorem pictureClock_p : (pictureClock s).p = s.p := rfl
@[simp] theorem pictureClock_opcode : (pictureClock s).opcode = s.opcode := rfl
@[simp] theorem pictureClock_cycles : (pictureClock s).cycles = s.cycles := rfl
@[simp] theorem pictureClock_totalClocks : (pictureClock s).totalClocks = s.totalClocks := rfl
@[simp] theorem pictureClock_branchTaken : (pictureClock s).branchTaken = s.branchTaken := rfl
@[simp] theorem pictureClock_pageCrossed : (pictureClock s).pageCrossed = s.pageCrossed := rfl
@[simp] theorem pictureClock_ram : (pictureClock s).ram = s.ram := rfl
@[simp] theorem pictureClock_cart : (pictureClock s).cart = s.cart := rfl
@[simp] theorem pictureClock_clockCount : (pictureClock s).clockCount = s.clockCount := rfl
@[simp] theorem pictureClock_dmaActive : (pictureClock s).dmaActive = s.dmaActive := rfl
@[simp] theorem pictureClock_dmaPage : (pictureClock s).dmaPage = s.dmaPage := rfl
@[simp] theorem pictureClock_dmaCursor : (pictureClock s).dmaCursor = s.dmaCursor := rfl
@[simp] theorem pictureClock_dmaStaging : (pictureClock s).dmaStaging = s.dmaStaging := rfl
@[simp] theorem pictureClock_dmaPhase : (pictureClock s).dmaPhase = s.dmaPhase := rfl
@[simp] theorem pictureClock_picture : (pictureClock s).picture = ⟨s.picture.ticks + 1, s.picture.calls⟩ := rfl
@[simp] theorem pictureClock_sound : (pictureClock s).sound = s.sound := rfl
@[simp] theorem pictureClock_pending : (pictureClock s).pending = s.pending := rfl
@[simp] theorem pictureClock_reply : (pictureClock s).reply = s.reply := rfl
@[simp] theorem pictureClock_outOfContract : (pictureClock s).outOfContract = s.outOfContract := rfl

/-! ### soundClock -/

@[simp] theorem soundClock_a : (soundClock s).a = s.a := rfl
@[simp] theorem soundClock_x : (soundClock s).x = s.x := rfl
@[simp] theorem soundClock_y : (soundClock s).y = s.y := rfl
@[simp] theorem soundClock_sp : (soundClock s).sp = s.sp := rfl
@[simp] theorem soundClock_pc : (soundClock s).pc = s.pc := rfl
@[simp] theorem soundClock_p : (soundClock s).p = s.p := rfl
@[simp] theorem soundClock_opcode : (soundClock s).opcode = s.opcode := rfl
@[simp] theorem soundClock_cycles : (soundClock s).cycles = s.cycles := rfl
@[simp] theorem soundClock_totalClocks : (soundClock s).totalClocks = s.totalClocks := rfl
@[simp] theorem soundClock_branchTaken : (soundClock s).branchTaken = s.branchTaken := rfl
@[simp] theorem soundClock_pageCrossed : (soundClock s).pageCrossed = s.pageCrossed := rfl
@[simp] theorem soundClock_ram : (soundClock s).ram = s.ram := rfl
@[simp] theorem soundClock_cart : (soundClock s).cart = s.cart := rfl
@[simp] theorem soundClock_clockCount : (soundClock s).clockCount = s.clockCount := rfl
@[simp] theorem soundClock_dmaActive : (soundClock s).dmaActive = s.dmaActive := rfl
@[simp] theorem soundClock_dmaPage : (soundClock s).dmaPage = s.dmaPage := rfl
@[simp] theorem soundClock_dmaCursor : (soundClock s).dmaCursor = s.dmaCursor := rfl
@[simp] theorem soundClock_dmaStaging : (soundClock s).dmaStaging = s.dmaStaging := rfl
@[simp] theorem soundClock_dmaPhase : (soundClock s).dmaPhase = s.dmaPhase := rfl
@[simp] theorem soundClock_picture : (soundClock s).picture = s.picture := rfl
@[simp] theorem soundClock_sound : (soundClock s).sound = ⟨s.sound.ticks + 1, s.sound.calls⟩ := rfl
@[simp] theorem soundClock_pending : (soundClock s).pending = s.pending := rfl
@[simp] theorem soundClock_reply : (soundClock s).reply = s.reply := rfl
@[simp] theorem soundClock_outOfContract : (soundClock s).outOfContract = s.outOfContract := rfl

/-! ### writeRam -/

@[simp] theorem writeRam_a (i : Nat) (v : Byte) : (writeRam i v s).a = s.a := rfl
@[simp] theorem writeRam_x (i : Nat) (v : Byte) : (writeRam i v s).x = s.x := rfl
@[simp] theorem writeRam_y (i : Nat) (v : Byte) : (writeRam i v s).y = s.y := rfl
@[simp] theorem writeRam_sp (i : Nat) (v : Byte) : (writeRam i v s).sp = s.sp := rfl
@[simp] theorem writeRam_pc (i : Nat) (v : Byte) : (writeRam i v s).pc = s.pc := rfl
@[simp] theorem writeRam_p (i : Nat) (v : Byte) : (writeRam i v s).p = s.p := rfl
@[simp] theorem writeRam_opcode (i : Nat) (v : Byte) : (writeRam i v s).opcode = s.opcode := rfl
@[simp] theorem writeRam_cycles (i : Nat) (v : Byte) : (writeRam i v s).cycles = s.cycles := rfl
@[simp] theorem writeRam_totalClocks (i : Nat) (v : Byte) : (writeRam i v s).totalClocks = s.totalClocks := rfl
@[simp] theorem writeRam_branchTaken (i : Nat) (v : Byte) : (writeRam i v s).branchTaken = s.branchTaken := rfl
@[simp] theorem writeRam_pageCrossed (i : Nat) (v : Byte) : (writeRam i v s).pageCrossed = s.pageCrossed := rfl
@[simp] theorem writeRam_ram (i : Nat) (v : Byte) : (writeRam i v s).ram = cellsWrite .ram i v s.ram := rfl
@[simp] theorem writeRam_cart (i : Nat) (v : Byte) : (writeRam i v s).cart = s.cart := rfl
@[simp] theorem writeRam_clockCount (i : Nat) (v : Byte) : (writeRam i v s).clockCount = s.clockCount := rfl
@[simp] theorem writeRam_dmaActive (i : Nat) (v : Byte) : (writeRam i v s).dmaActive = s.dmaActive := rfl
@[simp] theorem writeRam_dmaPage (i : Nat) (v : Byte) : (writeRam i v s).dmaPage = s.dmaPage := rfl
@[simp] theorem writeRam_dmaCursor (i : Nat) (v : Byte) : (writeRam i v s).dmaCursor = s.dmaCursor := rfl
@[simp] theorem writeRam_dmaStaging (i : Nat) (v : Byte) : (writeRam i v s).dmaStaging = s.dmaStaging := rfl
@[simp] theorem writeRam_dmaPhase (i : Nat) (v : Byte) : (writeRam i v s).dmaPhase = s.dmaPhase := rfl
@[simp] theorem writeRam_picture (i : Nat) (v : Byte) : (writeRam i v s).picture = s.picture := rfl
@[simp] theorem writeRam_sound (i : Nat) (v : Byte) : (writeRam i v s).sound = s.sound := rfl
@[simp] theorem writeRam_pending (i : Nat) (v : Byte) : (writeRam i v s).pending = s.pending := rfl
@[simp] theorem writeRam_reply (i : Nat) (v : Byte) : (writeRam i v s).reply = s.reply := rfl
@[simp] theorem writeRam_outOfContract (i : Nat) (v : Byte) : (writeRam i v s).outOfContract = s.outOfContract := rfl

/-! ### armDma -/

@[simp] theorem armDma_a (v : Byte) : (armDma v s).a = s.a := rfl
@[simp] theorem armDma_x (v : Byte) : (armDma v s).x = s.x := rfl
@[simp] theorem armDma_y (v : Byte) : (armDma v s).y = s.y := rfl
@[simp] theorem armDma_sp (v : Byte) : (armDma v s).sp = s.sp := rfl
@[simp] theorem armDma_pc (v : Byte) : (armDma v s).pc = s.pc := rfl
@[simp] theorem armDma_p (v : Byte) : (armDma v s).p = s.p := rfl
@[simp] theorem armDma_opcode (v : Byte) : (armDma v s).opcode = s.opcode := rfl
@[simp] theorem armDma_cycles (v : Byte) : (armDma v s).cycles = s.cycles := rfl
@[simp] theorem armDma_totalClocks (v : Byte) : (armDma v s).totalClocks = s.totalClocks := rfl
@[simp] theorem armDma_branchTaken (v : Byte) : (armDma v s).branchTaken = s.branchTaken := rfl
@[simp] theorem armDma_pageCrossed (v : Byte) : (armDma v s).pageCrossed = s.pageCrossed := rfl
@[simp] theorem armDma_ram (v : Byte) : (armDma v s).ram = s.ram := rfl
@[simp] theorem armDma_cart (v : Byte) : (armDma v s).cart = s.cart := rfl
@[simp] theorem armDma_clockCount (v : Byte) : (armDma v s).clockCount = s.clockCount := rfl
@[simp] theorem armDma_dmaActive (v : Byte) : (armDma v s).dmaActive = true := rfl
@[simp] theorem armDma_dmaPage (v : Byte) : (armDma v s).dmaPage = v := rfl
@[simp] theorem armDma_dmaCursor (v : Byte) : (armDma v s).dmaCursor = s.dmaCursor := rfl
@[simp] theorem armDma_dmaStaging (v : Byte) : (armDma v s).dmaStaging = s.dmaStaging := rfl
@[simp] theorem armDma_dmaPhase (v : Byte) : (armDma v s).dmaPhase = .read := rfl
@[simp] theorem armDma_picture (v : Byte) : (armDma v s).picture = s.picture := rfl
@[simp] theorem armDma_sound (v : Byte) : (armDma v s).sound = s.sound := rfl
@[simp] theorem armDma_pending (v : Byte) : (armDma v s).pending = s.pending := rfl
@[simp] theorem armDma_reply (v : Byte) : (armDma v s).reply = s.reply := rfl
@[simp] theorem armDma_outOfContract (v : Byte) : (armDma v s).outOfContract = s.outOfContract := rfl

/-! ### resetRegisters -/

@[simp] theorem resetRegisters_a : (resetRegisters s).a = Config.resetA := rfl
@[simp] theorem resetRegisters_x : (resetRegisters s).x = Config.resetX := rfl
@[simp] theorem resetRegisters_y : (resetRegisters s).y = Config.resetY := rfl
@[simp] theorem resetRegisters_sp : (resetRegisters s).sp = 0xFD#8 := rfl
@[simp] theorem resetRegisters_pc : (resetRegisters s).pc = s.pc := rfl
@[simp] theorem resetRegisters_p : (resetRegisters s).p = 0x20#8 := rfl
@[simp] theorem resetRegisters_opcode : (resetRegisters s).opcode = 0x00#8 := rfl
@[simp] theorem resetRegisters_cycles : (resetRegisters s).cycles = 8#8 := rfl
@[simp] theorem resetRegisters_totalClocks : (resetRegisters s).totalClocks = 0 := rfl
@[simp] theorem resetRegisters_branchTaken : (resetRegisters s).branchTaken = false := rfl
@[simp] theorem resetRegisters_pageCrossed : (resetRegisters s).pageCrossed = false := rfl
@[simp] theorem resetRegisters_ram : (resetRegisters s).ram = s.ram := rfl
@[simp] theorem resetRegisters_cart : (resetRegisters s).cart = s.cart := rfl
@[simp] theorem resetRegisters_clockCount : (resetRegisters s).clockCount = s.clockCount := rfl
@[simp] theorem resetRegisters_dmaActive : (resetRegisters s).dmaActive = s.dmaActive := rfl
@[simp] theorem resetRegisters_dmaPage : (resetRegisters s).dmaPage = s.dmaPage := rfl
@[simp] theorem resetRegisters_dmaCursor : (resetRegisters s).dmaCursor = s.dmaCursor := rfl
@[simp] theorem resetRegisters_dmaStaging : (resetRegisters s).dmaStaging = s.dmaStaging := rfl
@[simp] theorem resetRegisters_dmaPhase : (resetRegisters s).dmaPhase = s.dmaPhase := rfl
@[simp] theorem resetRegisters_picture : (resetRegisters s).picture = s.picture := rfl
@[simp] theorem resetRegisters_sound : (resetRegisters s).sound = s.sound := rfl
@[simp] theorem resetRegisters_pending : (resetRegisters s).pending = s.pending := rfl
@[simp] theorem resetRegisters_reply : (resetRegisters s).reply = s.reply := rfl
@[simp] theorem resetRegisters_outOfContract : (resetRegisters s).outOfContract = s.outOfContract := rfl

/-! ### resetBusFields -/

@[simp] theorem resetBusFields_a : (resetBusFields s).a = s.a := rfl
@[simp] theorem resetBusFields_x : (resetBusFields s).x = s.x := rfl
@[simp] theorem resetBusFields_y : (resetBusFields s).y = s.y := rfl
@[simp] theorem resetBusFields_sp : (resetBusFields s).sp = s.sp := rfl
@[simp] theorem resetBusFields_pc : (resetBusFields s).pc = s.pc := rfl
@[simp] theorem resetBusFields_p : (resetBusFields s).p = s.p := rfl
@[simp] theorem resetBusFields_opcode : (resetBusFields s).opcode = s.opcode := rfl
@[simp] theorem resetBusFields_cycles : (resetBusFields s).cycles = s.cycles := rfl
@[simp] theorem resetBusFields_totalClocks : (resetBusFields s).totalClocks = s.totalClocks := rfl
@[simp] theorem resetBusFields_branchTaken : (resetBusFields s).branchTaken = s.branchTaken := rfl
@[simp] theorem resetBusFields_pageCrossed : (resetBusFields s).pageCrossed = s.pageCrossed := rfl
@[simp] theorem resetBusFields_ram : (resetBusFields s).ram = s.ram := rfl
@[simp] theorem resetBusFields_cart : (resetBusFields s).cart = s.cart := rfl
@[simp] theorem resetBusFields_clockCount : (resetBusFields s).clockCount = 0 := rfl
@[simp] theorem resetBusFields_dmaActive : (resetBusFields s).dmaActive = false := rfl
@[simp] theorem resetBusFields_dmaPage : (resetBusFields s).dmaPage = 0x00#8 := rfl
@[simp] theorem resetBusFields_dmaCursor : (resetBusFields s).dmaCursor = 0x00#8 := rfl
@[simp] theorem resetBusFields_dmaStaging : (resetBusFields s).dmaStaging = 0x00#8 := rfl
@[simp] theorem resetBusFields_dmaPhase : (resetBusFields s).dmaPhase = .read := rfl
@[simp] theorem resetBusFields_picture : (resetBusFields s).picture = s.picture := rfl
@[simp] theorem resetBusFields_sound : (resetBusFields s).sound = s.sound := rfl
@[simp] theorem resetBusFields_pending : (resetBusFields s).pending = s.pending := rfl
@[simp] theorem resetBusFields_reply : (resetBusFields s).reply = s.reply := rfl
@[simp] theorem resetBusFields_outOfContract : (resetBusFields s).outOfContract = s.outOfContract := rfl

/-! ### countTick -/

@[simp] theorem countTick_a : (countTick s).a = s.a := rfl
@[simp] theorem countTick_x : (countTick s).x = s.x := rfl
@[simp] theorem countTick_y : (countTick s).y = s.y := rfl
@[simp] theorem countTick_sp : (countTick s).sp = s.sp := rfl
@[simp] theorem countTick_pc : (countTick s).pc = s.pc := rfl
@[simp] theorem countTick_p : (countTick s).p = s.p := rfl
@[simp] theorem countTick_opcode : (countTick s).opcode = s.opcode := rfl
@[simp] theorem countTick_cycles : (countTick s).cycles = s.cycles := rfl
@[simp] theorem countTick_totalClocks : (countTick s).totalClocks = s.totalClocks + 1 := rfl
@[simp] theorem countTick_branchTaken : (countTick s).branchTaken = s.branchTaken := rfl
@[simp] theorem countTick_pageCrossed : (countTick s).pageCrossed = s.pageCrossed := rfl
@[simp] theorem countTick_ram : (countTick s).ram = s.ram := rfl
@[simp] theorem countTick_cart : (countTick s).cart = s.cart := rfl
@[simp] theorem countTick_clockCount : (countTick s).clockCount = s.clockCount := rfl
@[simp] theorem countTick_dmaActive : (countTick s).dmaActive = s.dmaActive := rfl
@[simp] theorem countTick_dmaPage : (countTick s).dmaPage = s.dmaPage := rfl
@[simp] theorem countTick_dmaCursor : (countTick s).dmaCursor = s.dmaCursor := rfl
@[simp] theorem countTick_dmaStaging : (countTick s).dmaStaging = s.dmaStaging := rfl
@[simp] theorem countTick_dmaPhase : (countTick s).dmaPhase = s.dmaPhase := rfl
@[simp] theorem countTick_picture : (countTick s).picture = s.picture := rfl
@[simp] theorem countTick_sound : (countTick s).sound = s.sound := rfl
@[simp] theorem countTick_pending : (countTick s).pending = s.pending := rfl
@[simp] theorem countTick_reply : (countTick s).reply = s.reply := rfl
@[simp] theorem countTick_outOfContract : (countTick s).outOfContract = s.outOfContract := rfl

/-! ### setReply -/

@[simp] theorem setReply_a (r : Reply) : (setReply r s).a = s.a := rfl
@[simp] theorem setReply_x (r : Reply) : (setReply r s).x = s.x := rfl
@[simp] theorem setReply_y (r : Reply) : (setReply r s).y = s.y := rfl
@[simp] theorem setReply_sp (r : Reply) : (setReply r s).sp = s.sp := rfl
@[simp] theorem setReply_pc (r : Reply) : (setReply r s).pc = s.pc := rfl
@[simp] theorem setReply_p (r : Reply) : (setReply r s).p = s.p := rfl
@[simp] theorem setReply_opcode (r : Reply) : (setReply r s).opcode = s.opcode := rfl
@[simp] theorem setReply_cycles (r : Reply) : (setReply r s).cycles = s.cycles := rfl
@[simp] theorem setReply_totalClocks (r : Reply) : (setReply r s).totalClocks = s.totalClocks := rfl
@[simp] theorem setReply_branchTaken (r : Reply) : (setReply r s).branchTaken = s.branchTaken := rfl
@[simp] theorem setReply_pageCrossed (r : Reply) : (setReply r s).pageCrossed = s.pageCrossed := rfl
@[simp] theorem setReply_ram (r : Reply) : (setReply r s).ram = s.ram := rfl
@[simp] theorem setReply_cart (r : Reply) : (setReply r s).cart = s.cart := rfl
@[simp] theorem setReply_clockCount (r : Reply) : (setReply r s).clockCount = s.clockCount := rfl
@[simp] theorem setReply_dmaActive (r : Reply) : (setReply r s).dmaActive = s.dmaActive := rfl
@[simp] theorem setReply_dmaPage (r : Reply) : (setReply r s).dmaPage = s.dmaPage := rfl
@[simp] theorem setReply_dmaCursor (r : Reply) : (setReply r s).dmaCursor = s.dmaCursor := rfl
@[simp] theorem setReply_dmaStaging (r : Reply) : (setReply r s).dmaStaging = s.dmaStaging := rfl
@[simp] theorem setReply_dmaPhase (r : Reply) : (setReply r s).dmaPhase = s.dmaPhase := rfl
@[simp] theorem setReply_picture (r : Reply) : (setReply r s).picture = s.picture := rfl
@[simp] theorem setReply_sound (r : Reply) : (setReply r s).sound = s.sound := rfl
@[simp] theorem setReply_pending (r : Reply) : (setReply r s).pending = s.pending := rfl
@[simp] theorem setReply_reply (r : Reply) : (setReply r s).reply = r := rfl
@[simp] theorem setReply_outOfContract (r : Reply) : (setReply r s).outOfContract = s.outOfContract := rfl

/-! ### setReg -/

@[simp] theorem setReg_a (r : Reg) (v : Byte) : (setReg r v s).a = if r = .a then v else s.a := by cases r <;> rfl
@[simp] theorem setReg_x (r : Reg) (v : Byte) : (setReg r v s).x = if r = .x then v else s.x := by cases r <;> rfl
@[simp] theorem setReg_y (r : Reg) (v : Byte) : (setReg r v s).y = if r = .y then v else s.y := by cases r <;> rfl
@[simp] theorem setReg_sp (r : Reg) (v : Byte) : (setReg r v s).sp = s.sp := by cases r <;> rfl
@[simp] theorem setReg_pc (r : Reg) (v : Byte) : (setReg r v s).pc = s.pc := by cases r <;> rfl
@[simp] theorem setReg_p (r : Reg) (v : Byte) : (setReg r v s).p = s.p := by cases r <;> rfl
@[simp] theorem setReg_opcode (r : Reg) (v : Byte) : (setReg r v s).opcode = s.opcode := by cases r <;> rfl
@[simp] theorem setReg_cycles (r : Reg) (v : Byte) : (setReg r v s).cycles = s.cycles := by cases r <;> rfl
@[simp] theorem setReg_totalClocks (r : Reg) (v : Byte) : (setReg r v s).totalClocks = s.totalClocks := by cases r <;> rfl
@[simp] theorem setReg_branchTaken (r : Reg) (v : Byte) : (setReg r v s).branchTaken = s.branchTaken := by cases r <;> rfl
@[simp] theorem setReg_pageCrossed (r : Reg) (v : Byte) : (setReg r v s).pageCrossed = s.pageCrossed := by cases r <;> rfl
@[simp] theorem setReg_ram (r : Reg) (v : Byte) : (setReg r v s).ram = s.ram := by cases r <;> rfl
@[simp] theorem setReg_cart (r : Reg) (v : Byte) : (setReg r v s).cart = s.cart := by cases r <;> rfl
@[simp] theorem setReg_clockCount (r : Reg) (v : Byte) : (setReg r v s).clockCount = s.clockCount := by cases r <;> rfl
@[simp] theorem setReg_dmaActive (r : Reg) (v : Byte) : (setReg r v s).dmaActive = s.dmaActive := by cases r <;> rfl
@[simp] theorem setReg_dmaPage (r : Reg) (v : Byte) : (setReg r v s).dmaPage = s.dmaPage := by cases r <;> rfl
@[simp] theorem setReg_dmaCursor (r : Reg) (v : Byte) : (setReg r v s).dmaCursor = s.dmaCursor := by cases r <;> rfl
@[simp] theorem setReg_dmaStaging (r : Reg) (v : Byte) : (setReg r v s).dmaStaging = s.dmaStaging := by cases r <;> rfl
@[simp] theorem setReg_dmaPhase (r : Reg) (v : Byte) : (setReg r v s).dmaPhase = s.dmaPhase := by cases r <;> rfl
@[simp] theorem setReg_picture (r : Reg) (v : Byte) : (setReg r v s).picture = s.picture := by cases r <;> rfl
@[simp] theorem setReg_sound (r : Reg) (v : Byte) : (setReg r v s).sound = s.sound := by cases r <;> rfl
@[simp] theorem setReg_pending (r : Reg) (v : Byte) : (setReg r v s).pending = s.pending := by cases r <;> rfl
@[simp] theorem setReg_reply (r : Reg) (v : Byte) : (setReg r v s).reply = s.reply := by cases r <;> rfl
@[simp] theorem setReg_outOfContract (r : Reg) (v : Byte) : (setReg r v s).outOfContract = s.outOfContract := by cases r <;> rfl

/-! ### getReg -/

theorem getReg_setReg_same (r : Reg) (v : Byte) : getReg r (setReg r v s) = v := by cases r <;> rfl

theorem getReg_setReg_other {q r : Reg} (v : Byte) (h : q ≠ r) : getReg q (setReg r v s) = getReg q s := by
  cases q <;> cases r <;> first | rfl | exact absurd rfl h

@[simp] theorem getReg_a : getReg .a s = s.a := rfl
@[simp] theorem getReg_x : getReg .x s = s.x := rfl
@[simp] theorem getReg_y : getReg .y s = s.y := rfl

/-! ### clockTail -/

@[simp] theorem clockTail_a : (clockTail s).a = s.a := by simp only [clockTail]; split <;> rfl
@[simp] theorem clockTail_x : (clockTail s).x = s.x := by simp only [clockTail]; split <;> rfl
@[simp] theorem clockTail_y : (clockTail s).y = s.y := by simp only [clockTail]; split <;> rfl
@[simp] theorem clockTail_sp : (clockTail s).sp = s.sp := by simp only [clockTail]; split <;> rfl
@[simp] theorem clockTail_pc : (clockTail s).pc = s.pc := by simp only [clockTail]; split <;> rfl
@[simp] theorem clockTail_p : (clockTail s).p = s.p := by simp only [clockTail]; split <;> rfl
@[simp] theorem clockTail_opcode : (clockTail s).opcode = s.opcode := by simp only [clockTail]; split <;> rfl
@[simp] theorem clockTail_cycles : (clockTail s).cycles = s.cycles := by simp only [clockTail]; split <;> rfl
@[simp] theorem clockTail_totalClocks : (clockTail s).totalClocks = s.totalClocks := by simp only [clockTail]; split <;> rfl
@[simp] theorem clockTail_branchTaken : (clockTail s).branchTaken = s.branchTaken := by simp only [clockTail]; split <;> rfl
@[simp] theorem clockTail_pageCrossed : (clockTail s).pageCrossed = s.pageCrossed := by simp only [clockTail]; split <;> rfl
@[simp] theorem clockTail_ram : (clockTail s).ram = s.ram := by simp only [clockTail]; split <;> rfl
@[simp] theorem clockTail_cart : (clockTail s).cart = s.cart := by simp only [clockTail]; split <;> rfl
@[simp] theorem clockTail_clockCount : (clockTail s).clockCount = s.clockCount + 1 := by
  simp only [clockTail]; split <;> rfl
@[simp] theorem clockTail_dmaActive : (clockTail s).dmaActive = s.dmaActive := by simp only [clockTail]; split <;> rfl
@[simp] theorem clockTail_dmaPage : (clockTail s).dmaPage = s.dmaPage := by simp only [clockTail]; split <;> rfl
@[simp] theorem clockTail_dmaCursor : (clockTail s).dmaCursor = s.dmaCursor := by simp only [clockTail]; split <;> rfl
@[simp] theorem clockTail_dmaStaging : (clockTail s).dmaStaging = s.dmaStaging := by simp only [clockTail]; split <;> rfl
@[simp] theorem clockTail_dmaPhase : (clockTail s).dmaPhase = s.dmaPhase := by simp only [clockTail]; split <;> rfl
@[simp] theorem clockTail_picture : (clockTail s).picture = s.picture := by simp only [clockTail]; split <;> rfl
@[simp] theorem clockTail_pending : (clockTail s).pending = s.pending := by simp only [clockTail]; split <;> rfl
@[simp] theorem clockTail_reply : (clockTail s).reply = s.reply := by simp only [clockTail]; split <;> rfl
@[simp] theorem clockTail_outOfContract : (clockTail s).outOfContract = s.outOfContract := by simp only [clockTail]; split <;> rfl

end Sys2Proof.Machine
end

