-- ==== Sys2Proof/Laws/Bus.lean ====
section
/-!
SUPPORT. Laws/Bus.lean: everything a bus access can do: the cases of `memRead` and `memWrite`, what they leave alone,
and that an access does not look at the registers it does not change.
-/

namespace Sys2Proof.Machine

variable (s : State)

/-! ## The cartridge claims nothing below 0x8000 (R82, R286, R287) -/

theorem cartridgeCpuRead_low (c : Cartridge) {a : Word} (h : ¬ 0x8000#16 ≤ a) : cartridgeCpuRead c a = none := by
  unfold cartridgeCpuRead
  cases c.mapper
  simp [h]

theorem cartridgeCpuWrite_low (c : Cartridge) {a : Word} (v : Byte) (h : ¬ 0x8000#16 ≤ a) :
    cartridgeCpuWrite c a v = false := by
  unfold cartridgeCpuWrite
  cases c.mapper
  simp [h]

theorem cartCpuRead_low {a : Word} (h : ¬ 0x8000#16 ≤ a) : cartCpuRead a s = none := by
  unfold cartCpuRead
  cases s.cart with
  | none => rfl
  | some c => simp [cartridgeCpuRead_low c h]

theorem cartCpuWrite_low {a : Word} (v : Byte) (h : ¬ 0x8000#16 ≤ a) : cartCpuWrite a v s = false := by
  unfold cartCpuWrite
  cases s.cart with
  | none => rfl
  | some c => exact cartridgeCpuWrite_low c v h

/-! ## MemRead (R67) -/

/-- Everything a bus read can do: it changes nothing, or it is one call on one collaborator. -/
theorem memRead_cases (a : Word) :
    (memRead a s).2 = s ∨ (memRead a s).2 = pictureCall (.readRegister (a.setWidth 3)) s ∨
      (memRead a s).2 = soundCall (.readRegister a) s := by
  unfold memRead
  cases cartCpuRead a s with
  | some d => exact .inl rfl
  | none =>
    dsimp only
    split
    · exact .inl rfl
    · split
      · exact .inr (.inl rfl)
      · split
        · exact .inr (.inr rfl)
        · exact .inl rfl

/-- A RAM read (R69): the cell's byte, and no side effect (R74). -/
theorem memRead_ram {a : Word} (h : a ≤ 0x1FFF#16) : memRead a s = (cellsRead .ram (ramCell a) s.ram, s) := by
  have h8 : ¬ 0x8000#16 ≤ a := by
    bv_omega
  simp [memRead, cartCpuRead_low s h8, h]

/-- A read the cartridge claims (R67): its byte, and no side effect (R74). -/
theorem memRead_claimed {a : Word} {d : Byte} (h : cartCpuRead a s = some d) : memRead a s = (d, s) := by
  simp [memRead, h]

theorem zext_le_ram (b : Byte) : zext b ≤ 0x1FFF#16 := by
  have := b.isLt
  simp only [zext, BitVec.le_def, BitVec.toNat_setWidth, BitVec.toNat_ofNat]
  omega

/-- A page-zero read is a RAM read. -/
theorem memRead_zext (b : Byte) : memRead (zext b) s = (cellsRead .ram (ramCell (zext b)) s.ram, s) :=
  memRead_ram s (zext_le_ram b)

@[simp] theorem memRead_snd_a (a : Word) : (memRead a s).2.a = s.a := by
  rcases memRead_cases s a with h | h | h <;> rw [h] <;> rfl
@[simp] theorem memRead_snd_x (a : Word) : (memRead a s).2.x = s.x := by
  rcases memRead_cases s a with h | h | h <;> rw [h] <;> rfl
@[simp] theorem memRead_snd_y (a : Word) : (memRead a s).2.y = s.y := by
  rcases memRead_cases s a with h | h | h <;> rw [h] <;> rfl
@[simp] theorem memRead_snd_sp (a : Word) : (memRead a s).2.sp = s.sp := by
  rcases memRead_cases s a with h | h | h <;> rw [h] <;> rfl
@[simp] theorem memRead_snd_pc (a : Word) : (memRead a s).2.pc = s.pc := by
  rcases memRead_cases s a with h | h | h <;> rw [h] <;> rfl
@[simp] theorem memRead_snd_p (a : Word) : (memRead a s).2.p = s.p := by
  rcases memRead_cases s a with h | h | h <;> rw [h] <;> rfl
@[simp] theorem memRead_snd_opcode (a : Word) : (memRead a s).2.opcode = s.opcode := by
  rcases memRead_cases s a with h | h | h <;> rw [h] <;> rfl
@[simp] theorem memRead_snd_cycles (a : Word) : (memRead a s).2.cycles = s.cycles := by
  rcases memRead_cases s a with h | h | h <;> rw [h] <;> rfl
@[simp] theorem memRead_snd_totalClocks (a : Word) : (memRead a s).2.totalClocks = s.totalClocks := by
  rcases memRead_cases s a with h | h | h <;> rw [h] <;> rfl
@[simp] theorem memRead_snd_branchTaken (a : Word) : (memRead a s).2.branchTaken = s.branchTaken := by
  rcases memRead_cases s a with h | h | h <;> rw [h] <;> rfl
@[simp] theorem memRead_snd_pageCrossed (a : Word) : (memRead a s).2.pageCrossed = s.pageCrossed := by
  rcases memRead_cases s a with h | h | h <;> rw [h] <;> rfl
@[simp] theorem memRead_snd_ram (a : Word) : (memRead a s).2.ram = s.ram := by
  rcases memRead_cases s a with h | h | h <;> rw [h] <;> rfl
@[simp] theorem memRead_snd_cart (a : Word) : (memRead a s).2.cart = s.cart := by
  rcases memRead_cases s a with h | h | h <;> rw [h] <;> rfl
@[simp] theorem memRead_snd_clockCount (a : Word) : (memRead a s).2.clockCount = s.clockCount := by
  rcases memRead_cases s a with h | h | h <;> rw [h] <;> rfl
@[simp] theorem memRead_snd_dmaActive (a : Word) : (memRead a s).2.dmaActive = s.dmaActive := by
  rcases memRead_cases s a with h | h | h <;> rw [h] <;> rfl
@[simp] theorem memRead_snd_dmaPage (a : Word) : (memRead a s).2.dmaPage = s.dmaPage := by
  rcases memRead_cases s a with h | h | h <;> rw [h] <;> rfl
@[simp] theorem memRead_snd_dmaCursor (a : Word) : (memRead a s).2.dmaCursor = s.dmaCursor := by
  rcases memRead_cases s a with h | h | h <;> rw [h] <;> rfl
@[simp] theorem memRead_snd_dmaStaging (a : Word) : (memRead a s).2.dmaStaging = s.dmaStaging := by
  rcases memRead_cases s a with h | h | h <;> rw [h] <;> rfl
@[simp] theorem memRead_snd_dmaPhase (a : Word) : (memRead a s).2.dmaPhase = s.dmaPhase := by
  rcases memRead_cases s a with h | h | h <;> rw [h] <;> rfl
@[simp] theorem memRead_snd_pending (a : Word) : (memRead a s).2.pending = s.pending := by
  rcases memRead_cases s a with h | h | h <;> rw [h] <;> rfl
@[simp] theorem memRead_snd_reply (a : Word) : (memRead a s).2.reply = s.reply := by
  rcases memRead_cases s a with h | h | h <;> rw [h] <;> rfl
@[simp] theorem memRead_snd_outOfContract (a : Word) : (memRead a s).2.outOfContract = s.outOfContract := by
  rcases memRead_cases s a with h | h | h <;> rw [h] <;> rfl

/-- A bus read does not look at the CPU's registers, the counters, the DMA controller or the driver's side: it
commutes with any change that leaves RAM, the cartridge and the collaborators alone. -/
theorem memRead_of_same (a : Word) {s t : State} (hr : t.ram = s.ram) (hc : t.cart = s.cart)
    (hp : t.picture = s.picture) (hs : t.sound = s.sound) :
    (memRead a t).1 = (memRead a s).1 ∧
      (memRead a t).2 = { t with picture := (memRead a s).2.picture, sound := (memRead a s).2.sound } := by
  have hcr : cartCpuRead a t = cartCpuRead a s := by simp [cartCpuRead, hc]
  unfold memRead
  rw [hcr]
  cases cartCpuRead a s with
  | some d => exact ⟨rfl, by cases t; simp_all⟩
  | none =>
    dsimp only
    split
    · exact ⟨by simp [hr], by cases t; simp_all⟩
    · split
      · exact ⟨by simp [hp], by cases t; simp_all [pictureCall]⟩
      · split
        · exact ⟨by simp [hs], by cases t; simp_all [soundCall]⟩
        · exact ⟨rfl, by cases t; simp_all⟩

/-! ## MemWrite (R68) -/

/-- Everything a bus write can do: nothing, one RAM cell, one call on one collaborator, or the DMA trigger. -/
theorem memWrite_cases (a : Word) (v : Byte) :
    memWrite a v s = s ∨ (a ≤ 0x1FFF#16 ∧ memWrite a v s = writeRam (ramCell a) v s) ∨
      memWrite a v s = pictureCall (.writeRegister (a.setWidth 3) v) s ∨
      memWrite a v s = soundCall (.writeRegister a v) s ∨ (a = 0x4014#16 ∧ memWrite a v s = armDma v s) := by
  unfold memWrite
  split
  · exact .inl rfl
  · split
    · exact .inr (.inl ⟨‹_›, rfl⟩)
    · split
      · exact .inr (.inr (.inl rfl))
      · split
        · exact .inr (.inr (.inr (.inl rfl)))
        · split
          · exact .inr (.inr (.inr (.inr ⟨‹_›, rfl⟩)))
          · exact .inl rfl

/-- A RAM write (R69). -/
theorem memWrite_ram {a : Word} (v : Byte) (h : a ≤ 0x1FFF#16) : memWrite a v s = writeRam (ramCell a) v s := by
  have h8 : ¬ 0x8000#16 ≤ a := by
    bv_omega
  simp [memWrite, cartCpuWrite_low s v h8, h]

/-- The DMA trigger (R72). -/
theorem memWrite_trigger (v : Byte) : memWrite 0x4014#16 v s = armDma v s := by
  have h : cartCpuWrite 0x4014#16 v s = false := cartCpuWrite_low s v (by decide)
  simp [memWrite, h, inSoundWindow]

@[simp] theorem memWrite_a (a : Word) (v : Byte) : (memWrite a v s).a = s.a := by
  rcases memWrite_cases s a v with h | ⟨_, h⟩ | h | h | ⟨_, h⟩ <;> rw [h] <;> rfl
@[simp] theorem memWrite_x (a : Word) (v : Byte) : (memWrite a v s).x = s.x := by
  rcases memWrite_cases s a v with h | ⟨_, h⟩ | h | h | ⟨_, h⟩ <;> rw [h] <;> rfl
@[simp] theorem memWrite_y (a : Word) (v : Byte) : (memWrite a v s).y = s.y := by
  rcases memWrite_cases s a v with h | ⟨_, h⟩ | h | h | ⟨_, h⟩ <;> rw [h] <;> rfl
@[simp] theorem memWrite_sp (a : Word) (v : Byte) : (memWrite a v s).sp = s.sp := by
  rcases memWrite_cases s a v with h | ⟨_, h⟩ | h | h | ⟨_, h⟩ <;> rw [h] <;> rfl
@[simp] theorem memWrite_pc (a : Word) (v : Byte) : (memWrite a v s).pc = s.pc := by
  rcases memWrite_cases s a v with h | ⟨_, h⟩ | h | h | ⟨_, h⟩ <;> rw [h] <;> rfl
@[simp] theorem memWrite_p (a : Word) (v : Byte) : (memWrite a v s).p = s.p := by
  rcases memWrite_cases s a v with h | ⟨_, h⟩ | h | h | ⟨_, h⟩ <;> rw [h] <;> rfl
@[simp] theorem memWrite_opcode (a : Word) (v : Byte) : (memWrite a v s).opcode = s.opcode := by
  rcases memWrite_cases s a v with h | ⟨_, h⟩ | h | h | ⟨_, h⟩ <;> rw [h] <;> rfl
@[simp] theorem memWrite_cycles (a : Word) (v : Byte) : (memWrite a v s).cycles = s.cycles := by
  rcases memWrite_cases s a v with h | ⟨_, h⟩ | h | h | ⟨_, h⟩ <;> rw [h] <;> rfl
@[simp] theorem memWrite_totalClocks (a : Word) (v : Byte) : (memWrite a v s).totalClocks = s.totalClocks := by
  rcases memWrite_cases s a v with h | ⟨_, h⟩ | h | h | ⟨_, h⟩ <;> rw [h] <;> rfl
@[simp] theorem memWrite_branchTaken (a : Word) (v : Byte) : (memWrite a v s).branchTaken = s.branchTaken := by
  rcases memWrite_cases s a v with h | ⟨_, h⟩ | h | h | ⟨_, h⟩ <;> rw [h] <;> rfl
@[simp] theorem memWrite_pageCrossed (a : Word) (v : Byte) : (memWrite a v s).pageCrossed = s.pageCrossed := by
  rcases memWrite_cases s a v with h | ⟨_, h⟩ | h | h | ⟨_, h⟩ <;> rw [h] <;> rfl
@[simp] theorem memWrite_cart (a : Word) (v : Byte) : (memWrite a v s).cart = s.cart := by
  rcases memWrite_cases s a v with h | ⟨_, h⟩ | h | h | ⟨_, h⟩ <;> rw [h] <;> rfl
@[simp] theorem memWrite_clockCount (a : Word) (v : Byte) : (memWrite a v s).clockCount = s.clockCount := by
  rcases memWrite_cases s a v with h | ⟨_, h⟩ | h | h | ⟨_, h⟩ <;> rw [h] <;> rfl
@[simp] theorem memWrite_dmaCursor (a : Word) (v : Byte) : (memWrite a v s).dmaCursor = s.dmaCursor := by
  rcases memWrite_cases s a v with h | ⟨_, h⟩ | h | h | ⟨_, h⟩ <;> rw [h] <;> rfl
@[simp] theorem memWrite_dmaStaging (a : Word) (v : Byte) : (memWrite a v s).dmaStaging = s.dmaStaging := by
  rcases memWrite_cases s a v with h | ⟨_, h⟩ | h | h | ⟨_, h⟩ <;> rw [h] <;> rfl
@[simp] theorem memWrite_pending (a : Word) (v : Byte) : (memWrite a v s).pending = s.pending := by
  rcases memWrite_cases s a v with h | ⟨_, h⟩ | h | h | ⟨_, h⟩ <;> rw [h] <;> rfl
@[simp] theorem memWrite_reply (a : Word) (v : Byte) : (memWrite a v s).reply = s.reply := by
  rcases memWrite_cases s a v with h | ⟨_, h⟩ | h | h | ⟨_, h⟩ <;> rw [h] <;> rfl
@[simp] theorem memWrite_outOfContract (a : Word) (v : Byte) : (memWrite a v s).outOfContract = s.outOfContract := by
  rcases memWrite_cases s a v with h | ⟨_, h⟩ | h | h | ⟨_, h⟩ <;> rw [h] <;> rfl

/-! ## Two-byte reads and pushes -/

@[simp] theorem readWord_a (l h : Word) : (readWord l h s).2.a = s.a := by simp [readWord]
@[simp] theorem readVector_a (w : Word) : (readVector w s).2.a = s.a := by simp [readVector]
@[simp] theorem readWord_x (l h : Word) : (readWord l h s).2.x = s.x := by simp [readWord]
@[simp] theorem readVector_x (w : Word) : (readVector w s).2.x = s.x := by simp [readVector]
@[simp] theorem readWord_y (l h : Word) : (readWord l h s).2.y = s.y := by simp [readWord]
@[simp] theorem readVector_y (w : Word) : (readVector w s).2.y = s.y := by simp [readVector]
@[simp] theorem readWord_sp (l h : Word) : (readWord l h s).2.sp = s.sp := by simp [readWord]
@[simp] theorem readVector_sp (w : Word) : (readVector w s).2.sp = s.sp := by simp [readVector]
@[simp] theorem readWord_pc (l h : Word) : (readWord l h s).2.pc = s.pc := by simp [readWord]
@[simp] theorem readVector_pc (w : Word) : (readVector w s).2.pc = s.pc := by simp [readVector]
@[simp] theorem readWord_p (l h : Word) : (readWord l h s).2.p = s.p := by simp [readWord]
@[simp] theorem readVector_p (w : Word) : (readVector w s).2.p = s.p := by simp [readVector]
@[simp] theorem readWord_opcode (l h : Word) : (readWord l h s).2.opcode = s.opcode := by simp [readWord]
@[simp] theorem readVector_opcode (w : Word) : (readVector w s).2.opcode = s.opcode := by simp [readVector]
@[simp] theorem readWord_cycles (l h : Word) : (readWord l h s).2.cycles = s.cycles := by simp [readWord]
@[simp] theorem readVector_cycles (w : Word) : (readVector w s).2.cycles = s.cycles := by simp [readVector]
@[simp] theorem readWord_totalClocks (l h : Word) : (readWord l h s).2.totalClocks = s.totalClocks := by simp [readWord]
@[simp] theorem readVector_totalClocks (w : Word) : (readVector w s).2.totalClocks = s.totalClocks := by simp [readVector]
@[simp] theorem readWord_branchTaken (l h : Word) : (readWord l h s).2.branchTaken = s.branchTaken := by simp [readWord]
@[simp] theorem readVector_branchTaken (w : Word) : (readVector w s).2.branchTaken = s.branchTaken := by simp [readVector]
@[simp] theorem readWord_pageCrossed (l h : Word) : (readWord l h s).2.pageCrossed = s.pageCrossed := by simp [readWord]
@[simp] theorem readVector_pageCrossed (w : Word) : (readVector w s).2.pageCrossed = s.pageCrossed := by simp [readVector]
@[simp] theorem readWord_ram (l h : Word) : (readWord l h s).2.ram = s.ram := by simp [readWord]
@[simp] theorem readVector_ram (w : Word) : (readVector w s).2.ram = s.ram := by simp [readVector]
@[simp] theorem readWord_cart (l h : Word) : (readWord l h s).2.cart = s.cart := by simp [readWord]
@[simp] theorem readVector_cart (w : Word) : (readVector w s).2.cart = s.cart := by simp [readVector]
@[simp] theorem readWord_clockCount (l h : Word) : (readWord l h s).2.clockCount = s.clockCount := by simp [readWord]
@[simp] theorem readVector_clockCount (w : Word) : (readVector w s).2.clockCount = s.clockCount := by simp [readVector]
@[simp] theorem readWord_dmaActive (l h : Word) : (readWord l h s).2.dmaActive = s.dmaActive := by simp [readWord]
@[simp] theorem readVector_dmaActive (w : Word) : (readVector w s).2.dmaActive = s.dmaActive := by simp [readVector]
@[simp] theorem readWord_dmaPage (l h : Word) : (readWord l h s).2.dmaPage = s.dmaPage := by simp [readWord]
@[simp] theorem readVector_dmaPage (w : Word) : (readVector w s).2.dmaPage = s.dmaPage := by simp [readVector]
@[simp] theorem readWord_dmaCursor (l h : Word) : (readWord l h s).2.dmaCursor = s.dmaCursor := by simp [readWord]
@[simp] theorem readVector_dmaCursor (w : Word) : (readVector w s).2.dmaCursor = s.dmaCursor := by simp [readVector]
@[simp] theorem readWord_dmaStaging (l h : Word) : (readWord l h s).2.dmaStaging = s.dmaStaging := by simp [readWord]
@[simp] theorem readVector_dmaStaging (w : Word) : (readVector w s).2.dmaStaging = s.dmaStaging := by simp [readVector]
@[simp] theorem readWord_dmaPhase (l h : Word) : (readWord l h s).2.dmaPhase = s.dmaPhase := by simp [readWord]
@[simp] theorem readVector_dmaPhase (w : Word) : (readVector w s).2.dmaPhase = s.dmaPhase := by simp [readVector]
@[simp] theorem readWord_pending (l h : Word) : (readWord l h s).2.pending = s.pending := by simp [readWord]
@[simp] theorem readVector_pending (w : Word) : (readVector w s).2.pending = s.pending := by simp [readVector]
@[simp] theorem readWord_reply (l h : Word) : (readWord l h s).2.reply = s.reply := by simp [readWord]
@[simp] theorem readVector_reply (w : Word) : (readVector w s).2.reply = s.reply := by simp [readVector]
@[simp] theorem readWord_outOfContract (l h : Word) : (readWord l h s).2.outOfContract = s.outOfContract := by simp [readWord]
@[simp] theorem readVector_outOfContract (w : Word) : (readVector w s).2.outOfContract = s.outOfContract := by simp [readVector]
@[simp] theorem push_a (v : Byte) : (push v s).a = s.a := by simp [push]
@[simp] theorem push_x (v : Byte) : (push v s).x = s.x := by simp [push]
@[simp] theorem push_y (v : Byte) : (push v s).y = s.y := by simp [push]
@[simp] theorem push_pc (v : Byte) : (push v s).pc = s.pc := by simp [push]
@[simp] theorem push_p (v : Byte) : (push v s).p = s.p := by simp [push]
@[simp] theorem push_opcode (v : Byte) : (push v s).opcode = s.opcode := by simp [push]
@[simp] theorem push_cycles (v : Byte) : (push v s).cycles = s.cycles := by simp [push]
@[simp] theorem push_totalClocks (v : Byte) : (push v s).totalClocks = s.totalClocks := by simp [push]
@[simp] theorem push_branchTaken (v : Byte) : (push v s).branchTaken = s.branchTaken := by simp [push]
@[simp] theorem push_pageCrossed (v : Byte) : (push v s).pageCrossed = s.pageCrossed := by simp [push]
@[simp] theorem push_cart (v : Byte) : (push v s).cart = s.cart := by simp [push]
@[simp] theorem push_clockCount (v : Byte) : (push v s).clockCount = s.clockCount := by simp [push]
@[simp] theorem push_dmaCursor (v : Byte) : (push v s).dmaCursor = s.dmaCursor := by simp [push]
@[simp] theorem push_dmaStaging (v : Byte) : (push v s).dmaStaging = s.dmaStaging := by simp [push]
@[simp] theorem push_pending (v : Byte) : (push v s).pending = s.pending := by simp [push]
@[simp] theorem push_reply (v : Byte) : (push v s).reply = s.reply := by simp [push]
@[simp] theorem push_outOfContract (v : Byte) : (push v s).outOfContract = s.outOfContract := by simp [push]
@[simp] theorem push_sp (v : Byte) : (push v s).sp = s.sp - 1 := by simp [push]

/-! ## RAM cells -/

theorem ramCell_lt (a : Word) : ramCell a < ramSize := by
  unfold ramCell ramSize
  have : (a &&& 0x07FF#16).toNat ≤ 0x07FF := by
    rw [BitVec.toNat_and]
    exact Nat.and_le_right
  omega

/-- RAM after a bus write is RAM, or RAM with the cell of the address written. -/
theorem memWrite_ram_cases (a : Word) (v : Byte) :
    (memWrite a v s).ram = s.ram ∨ (a ≤ 0x1FFF#16 ∧ (memWrite a v s).ram = cellsWrite .ram (ramCell a) v s.ram) := by
  rcases memWrite_cases s a v with h | ⟨ha, h⟩ | h | h | ⟨_, h⟩ <;> rw [h]
  · exact .inl rfl
  · exact .inr ⟨ha, rfl⟩
  · exact .inl rfl
  · exact .inl rfl
  · exact .inl rfl

/-- Pointer reads in page zero have no side effect (R69, R74): no cartridge claims below 0x8000. -/
theorem readPointer_zero (z : Byte) : (readPointer 0x00#8 z s).2 = s := by
  have e : ∀ b : Byte, wordOf 0x00#8 b = zext b := by intro b; simp [wordOf, zext]
  simp [readPointer, readWord, e, memRead_zext]

end Sys2Proof.Machine
end

