-- ==== Sys2Proof/Laws/Word.lean ====
section
/-!
SUPPORT. Laws/Word.lean: a word and its two bytes.
-/

namespace Sys2Proof

theorem wordOf_toNat (hi lo : Byte) : (wordOf hi lo).toNat = 256 * hi.toNat + lo.toNat := by
  have h1 := hi.isLt
  have h2 := lo.isLt
  unfold wordOf
  rw [BitVec.toNat_or, BitVec.toNat_shiftLeft, BitVec.toNat_setWidth, BitVec.toNat_setWidth, Nat.shiftLeft_eq]
  have e1 : hi.toNat % 2 ^ 16 * 2 ^ 8 % 2 ^ 16 = 2 ^ 8 * hi.toNat := by omega
  have e2 : lo.toNat % 2 ^ 16 = lo.toNat := by omega
  rw [e1, e2, ← Nat.two_pow_add_eq_or_of_lt (by omega)]

theorem lowByte_toNat (w : Word) : (lowByte w).toNat = w.toNat % 256 := by
  simp [lowByte]

theorem highByte_toNat (w : Word) : (highByte w).toNat = w.toNat / 256 := by
  have := w.isLt
  simp only [highByte, BitVec.toNat_setWidth, BitVec.toNat_ushiftRight, Nat.shiftRight_eq_div_pow]
  omega

/-- A word is its two bytes (R63). -/
@[simp] theorem wordOf_high_low (w : Word) : wordOf (highByte w) (lowByte w) = w := by
  apply BitVec.eq_of_toNat_eq
  rw [wordOf_toNat, lowByte_toNat, highByte_toNat]
  omega

@[simp] theorem lowByte_wordOf (hi lo : Byte) : lowByte (wordOf hi lo) = lo := by
  have := lo.isLt
  apply BitVec.eq_of_toNat_eq
  rw [lowByte_toNat, wordOf_toNat]
  omega

@[simp] theorem highByte_wordOf (hi lo : Byte) : highByte (wordOf hi lo) = hi := by
  have := lo.isLt
  apply BitVec.eq_of_toNat_eq
  rw [highByte_toNat, wordOf_toNat]
  omega

end Sys2Proof
end

