-- ==== Sys2Proof/Laws/Encoding.lean ====
section
/-!
SUPPORT. Laws/Encoding.lean: the opcode table walked once (`instrOf_spec`): what each of its 256 entries is, for every
value of the operand bytes.
-/

namespace Sys2Proof.Machine

/-- The operand of a mode, from the operand bytes that follow the opcode byte (R101, R102). -/
def operandFrom (m : Mode) (b1 b2 : Byte) : Operand :=
  match m with
  | .imp => .imp
  | .imm => .imm b1
  | .zp0 => .zp0 b1
  | .zpx => .zpx b1
  | .zpy => .zpy b1
  | .rel => .rel b1
  | .abs => .abs (wordOf b2 b1)
  | .abx => .abx (wordOf b2 b1)
  | .aby => .aby (wordOf b2 b1)
  | .ind => .ind (wordOf b2 b1)
  | .izx => .izx b1
  | .izy => .izy b1

/-- What entry `n` of the opcode table is: its descriptor does not depend on the operand bytes, its opcode byte is `n`,
and its operand and its encoding hold exactly the operand bytes its mode has. -/
def EntryOk (n : Nat) (f : Byte → Byte → Instr) : Prop :=
  ∀ b1 b2, (f b1 b2).descriptor = (f 0#8 0#8).descriptor ∧ (f b1 b2).opcode = BitVec.ofNat 8 n ∧
    operandOf (f b1 b2) = operandFrom (f 0#8 0#8).descriptor.mode b1 b2 ∧
    encode (f b1 b2) = BitVec.ofNat 8 n :: [b1, b2].take (f 0#8 0#8).descriptor.mode.operandBytes

/-- The entries of a list of the table that starts at entry `n`. -/
def EntriesOk : Nat → List (Byte → Byte → Instr) → Prop
  | _, [] => True
  | n, f :: rest => EntryOk n f ∧ EntriesOk (n + 1) rest

theorem entriesOk_append {n : Nat} {l m : List (Byte → Byte → Instr)} (h1 : EntriesOk n l)
    (h2 : EntriesOk (n + l.length) m) : EntriesOk n (l ++ m) := by
  induction l generalizing n with
  | nil => simpa using h2
  | cons f rest ih => exact ⟨h1.1, ih h1.2 (by simpa [Nat.add_assoc, Nat.add_comm 1] using h2)⟩

theorem entriesOk_getD {n k : Nat} {l : List (Byte → Byte → Instr)} (d) (h : EntriesOk n l) (hk : k < l.length) :
    EntryOk (n + k) (l.getD k d) := by
  induction l generalizing n k with
  | nil => simp at hk
  | cons f rest ih =>
    cases k with
    | zero => exact h.1
    | succ k => simpa [Nat.add_assoc, Nat.add_comm 1] using ih h.2 (by simpa using hk)

theorem entry_wide {n : Nat} {f : Byte → Byte → Instr} (h : ∀ b1 b2, (f b1 b2).descriptor = (f 0#8 0#8).descriptor ∧
    (f b1 b2).opcode = BitVec.ofNat 8 n ∧ operandOf (f b1 b2) = operandFrom (f 0#8 0#8).descriptor.mode b1 b2 ∧
    encode (f b1 b2) = [BitVec.ofNat 8 n, lowByte (wordOf b2 b1), highByte (wordOf b2 b1)] ∧
    (f 0#8 0#8).descriptor.mode.operandBytes = 2) : EntryOk n f := by
  intro b1 b2
  obtain ⟨h1, h2, h3, h4, h5⟩ := h b1 b2
  exact ⟨h1, h2, h3, by rw [h4, h5]; simp⟩

theorem entriesOk_row0 : EntriesOk 0x00 opcodeRow0 := by
  unfold opcodeRow0
  repeat' first | exact True.intro | refine ⟨fun _ _ => ⟨rfl, rfl, rfl, rfl⟩, ?_⟩

theorem entriesOk_row1 : EntriesOk 0x10 opcodeRow1 := by
  unfold opcodeRow1
  repeat' first | exact True.intro | refine ⟨fun _ _ => ⟨rfl, rfl, rfl, rfl⟩, ?_⟩

theorem entriesOk_row2 : EntriesOk 0x20 opcodeRow2 := by
  unfold opcodeRow2
  repeat' first | exact True.intro | refine ⟨fun _ _ => ⟨rfl, rfl, rfl, rfl⟩, ?_⟩

theorem entriesOk_row3 : EntriesOk 0x30 opcodeRow3 := by
  unfold opcodeRow3
  repeat' first | exact True.intro | refine ⟨fun _ _ => ⟨rfl, rfl, rfl, rfl⟩, ?_⟩

theorem entriesOk_row4 : EntriesOk 0x40 opcodeRow4 := by
  unfold opcodeRow4
  repeat' first | exact True.intro | refine ⟨fun _ _ => ⟨rfl, rfl, rfl, rfl⟩, ?_⟩

theorem entriesOk_row5 : EntriesOk 0x50 opcodeRow5 := by
  unfold opcodeRow5
  repeat' first | exact True.intro | refine ⟨fun _ _ => ⟨rfl, rfl, rfl, rfl⟩, ?_⟩

theorem entriesOk_row6 : EntriesOk 0x60 opcodeRow6 := by
  unfold opcodeRow6
  repeat' first | exact True.intro | refine ⟨fun _ _ => ⟨rfl, rfl, rfl, rfl⟩, ?_⟩

theorem entriesOk_row7 : EntriesOk 0x70 opcodeRow7 := by
  unfold opcodeRow7
  repeat' first | exact True.intro | refine ⟨fun _ _ => ⟨rfl, rfl, rfl, rfl⟩, ?_⟩

theorem entriesOk_row8 : EntriesOk 0x80 opcodeRow8 := by
  unfold opcodeRow8
  repeat' first | exact True.intro | refine ⟨fun _ _ => ⟨rfl, rfl, rfl, rfl⟩, ?_⟩ | refine ⟨entry_wide fun _ _ => ⟨rfl, rfl, rfl, rfl, rfl⟩, ?_⟩

theorem entriesOk_row9 : EntriesOk 0x90 opcodeRow9 := by
  unfold opcodeRow9
  repeat' first | exact True.intro | refine ⟨fun _ _ => ⟨rfl, rfl, rfl, rfl⟩, ?_⟩ | refine ⟨entry_wide fun _ _ => ⟨rfl, rfl, rfl, rfl, rfl⟩, ?_⟩

theorem entriesOk_rowA : EntriesOk 0xA0 opcodeRowA := by
  unfold opcodeRowA
  repeat' first | exact True.intro | refine ⟨fun _ _ => ⟨rfl, rfl, rfl, rfl⟩, ?_⟩ | refine ⟨entry_wide fun _ _ => ⟨rfl, rfl, rfl, rfl, rfl⟩, ?_⟩

theorem entriesOk_rowB : EntriesOk 0xB0 opcodeRowB := by
  unfold opcodeRowB
  repeat' first | exact True.intro | refine ⟨fun _ _ => ⟨rfl, rfl, rfl, rfl⟩, ?_⟩ | refine ⟨entry_wide fun _ _ => ⟨rfl, rfl, rfl, rfl, rfl⟩, ?_⟩

theorem entriesOk_rowC : EntriesOk 0xC0 opcodeRowC := by
  unfold opcodeRowC
  repeat' first | exact True.intro | refine ⟨fun _ _ => ⟨rfl, rfl, rfl, rfl⟩, ?_⟩

theorem entriesOk_rowD : EntriesOk 0xD0 opcodeRowD := by
  unfold opcodeRowD
  repeat' first | exact True.intro | refine ⟨fun _ _ => ⟨rfl, rfl, rfl, rfl⟩, ?_⟩

theorem entriesOk_rowE : EntriesOk 0xE0 opcodeRowE := by
  unfold opcodeRowE
  repeat' first | exact True.intro | refine ⟨fun _ _ => ⟨rfl, rfl, rfl, rfl⟩, ?_⟩

theorem entriesOk_rowF : EntriesOk 0xF0 opcodeRowF := by
  unfold opcodeRowF
  repeat' first | exact True.intro | refine ⟨fun _ _ => ⟨rfl, rfl, rfl, rfl⟩, ?_⟩

theorem length_row0 : opcodeRow0.length = 16 := rfl
theorem length_row1 : opcodeRow1.length = 16 := rfl
theorem length_row2 : opcodeRow2.length = 16 := rfl
theorem length_row3 : opcodeRow3.length = 16 := rfl
theorem length_row4 : opcodeRow4.length = 16 := rfl
theorem length_row5 : opcodeRow5.length = 16 := rfl
theorem length_row6 : opcodeRow6.length = 16 := rfl
theorem length_row7 : opcodeRow7.length = 16 := rfl
theorem length_row8 : opcodeRow8.length = 16 := rfl
theorem length_row9 : opcodeRow9.length = 16 := rfl
theorem length_rowA : opcodeRowA.length = 16 := rfl
theorem length_rowB : opcodeRowB.length = 16 := rfl
theorem length_rowC : opcodeRowC.length = 16 := rfl
theorem length_rowD : opcodeRowD.length = 16 := rfl
theorem length_rowE : opcodeRowE.length = 16 := rfl
theorem length_rowF : opcodeRowF.length = 16 := rfl

theorem opcodeTable_length : opcodeTable.length = 256 := by
  simp only [opcodeTable, List.length_append, length_row0, length_row1, length_row2, length_row3, length_row4,
    length_row5, length_row6, length_row7, length_row8, length_row9, length_rowA, length_rowB, length_rowC,
    length_rowD, length_rowE, length_rowF]

/-- The whole table (R103, R106, R107). -/
theorem entriesOk_table : EntriesOk 0 opcodeTable :=
  entriesOk_append entriesOk_row0 (entriesOk_append entriesOk_row1 (entriesOk_append entriesOk_row2
  (entriesOk_append entriesOk_row3 (entriesOk_append entriesOk_row4 (entriesOk_append entriesOk_row5
  (entriesOk_append entriesOk_row6 (entriesOk_append entriesOk_row7 (entriesOk_append entriesOk_row8
  (entriesOk_append entriesOk_row9 (entriesOk_append entriesOk_rowA (entriesOk_append entriesOk_rowB
  (entriesOk_append entriesOk_rowC (entriesOk_append entriesOk_rowD (entriesOk_append entriesOk_rowE
  (entriesOk_rowF)))))))))))))))

/-- Everything about the instruction of an opcode byte and its operand bytes (R100-R107). -/
theorem instrOf_spec (op b1 b2 : Byte) :
    (instrOf op b1 b2).descriptor = DESC op ∧ (instrOf op b1 b2).opcode = op ∧
      operandOf (instrOf op b1 b2) = operandFrom (DESC op).mode b1 b2 ∧
      encode (instrOf op b1 b2) = op :: [b1, b2].take (operandCount op) := by
  have h := entriesOk_getD (fun _ _ => .unimp00) entriesOk_table
    (k := op.toNat) (by rw [opcodeTable_length]; exact op.isLt) b1 b2
  simp only [Nat.zero_add, BitVec.ofNat_toNat, BitVec.setWidth_eq] at h
  exact h

end Sys2Proof.Machine
end

