-- ==== Sys2Proof/Laws/Instr.lean ====
section
/-!
SUPPORT. Laws/Instr.lean: what an instruction can be (`exec_eq`: the one case split over the 256 constructors, which
later proofs cite), and what the resolver and a load's data read do.
-/

namespace Sys2Proof.Machine

/-! ## The one case split over the constructors -/

theorem operandMode_operandOf (i : Instr) : operandMode (operandOf i) = i.descriptor.mode := by
  cases i <;> rfl

theorem handler_none {i : Instr} : i.descriptor.handler = .none → i.descriptor = unimplemented := by
  cases i <;> first | exact fun _ => rfl | exact fun h => Handler.noConfusion h

/-- The shared handler an instruction's meaning is, run with its own opcode byte, base cost and operand. -/
def sharedMeaning (i : Instr) (s : State) : Outcome :=
  match i.descriptor.handler, operandOf i with
  | .load r, o => loadInstr r i.opcode i.descriptor.base o s
  | .store r, o => storeInstr r i.opcode i.descriptor.base o s
  | .branch c, .rel d => branchInstr c i.opcode i.descriptor.base d s
  | _, _ => unimpInstr i.opcode s

theorem exec_eq (i : Instr) (s : State) : exec i s = sharedMeaning i s := by
  cases i <;> rfl

theorem operandOf_not_ind (i : Instr) (p : Word) : operandOf i ≠ .ind p := by
  cases i <;> exact fun h => Operand.noConfusion h

theorem operandMode_rel {o : Operand} (h : operandMode o = .rel) : ∃ d, o = .rel d := by
  cases o <;> first | exact ⟨_, rfl⟩ | exact Mode.noConfusion h

theorem handler_branch {i : Instr} {c : Cond} : i.descriptor.handler = .branch c → i.descriptor.mode = .rel := by
  cases i <;> first | exact fun _ => rfl | exact fun h => Handler.noConfusion h

theorem exec_load {i : Instr} {r : Reg} (h : i.descriptor.handler = .load r) (s : State) :
    exec i s = loadInstr r i.opcode i.descriptor.base (operandOf i) s := by
  simp only [exec_eq, sharedMeaning, h]

theorem exec_store {i : Instr} {r : Reg} (h : i.descriptor.handler = .store r) (s : State) :
    exec i s = storeInstr r i.opcode i.descriptor.base (operandOf i) s := by
  simp only [exec_eq, sharedMeaning, h]

theorem exec_branch {i : Instr} {c : Cond} (h : i.descriptor.handler = .branch c) (s : State) :
    ∃ d, operandOf i = .rel d ∧ exec i s = branchInstr c i.opcode i.descriptor.base d s := by
  obtain ⟨d, hd⟩ := operandMode_rel ((operandMode_operandOf i).trans (handler_branch h))
  exact ⟨d, hd, by simp only [exec_eq, sharedMeaning, h, hd]⟩

theorem exec_none {i : Instr} (h : i.descriptor.handler = .none) (s : State) : exec i s = unimpInstr i.opcode s := by
  simp only [exec_eq, sharedMeaning, h]

/-- Everything `exec` can do: one of the four shared meanings. -/
theorem exec_cases (i : Instr) (s : State) :
    (∃ r, i.descriptor.handler = .load r ∧ exec i s = loadInstr r i.opcode i.descriptor.base (operandOf i) s) ∨
    (∃ r, i.descriptor.handler = .store r ∧ exec i s = storeInstr r i.opcode i.descriptor.base (operandOf i) s) ∨
    (∃ c d, i.descriptor.handler = .branch c ∧ operandOf i = .rel d ∧
        exec i s = branchInstr c i.opcode i.descriptor.base d s) ∨
    (i.descriptor = unimplemented ∧ exec i s = unimpInstr i.opcode s) := by
  cases h : i.descriptor.handler with
  | load r => exact .inl ⟨r, rfl, exec_load h s⟩
  | store r => exact .inr (.inl ⟨r, rfl, exec_store h s⟩)
  | branch c =>
    obtain ⟨d, hd, e⟩ := exec_branch h s
    exact .inr (.inr (.inl ⟨c, d, rfl, hd, e⟩))
  | none => exact .inr (.inr (.inr ⟨handler_none h, exec_none h s⟩))

/-! ## The resolver leaves everything alone -/

/-- No mode of an admitted instruction changes anything while it resolves: pointers lie in page zero (R161, R162). -/
theorem resolve_state (o : Operand) (s : State) (h : ∀ p, o ≠ .ind p) : (resolve o s).state = s := by
  cases o with
  | ind p => exact absurd rfl (h p)
  | izx z => exact readPointer_zero s (z + s.x)
  | izy z => exact readPointer_zero s z
  | _ => rfl

/-- Only ABX, ABY and IZY report a crossing (R163). -/
theorem resolve_crossed (o : Operand) (s : State) (h : (resolve o s).crossed = true) :
    operandMode o = .abx ∨ operandMode o = .aby ∨ operandMode o = .izy := by
  cases o <;> simp_all [resolve, operandMode]

/-! ## The data read of a load -/

/-- The data byte is the operand byte, with no bus access, or one bus read of the effective address. -/
theorem readOperand_cases (o : Operand) (a : Word) (s : State) :
    (∃ v, o = .imm v ∧ readOperand o a s = (v, s)) ∨ readOperand o a s = memRead a s := by
  cases o <;> first | exact .inl ⟨_, rfl, rfl⟩ | exact .inr rfl

end Sys2Proof.Machine
end

