-- ==== Sys2Proof/Laws/Handlers.lean ====
section
/-!
SUPPORT. Laws/Handlers.lean: the four shared meanings of an instruction, each as one next state in closed form, and
interrupt entry.
-/

namespace Sys2Proof.Machine

/-! ## Bus accesses do not look at the CPU -/

/-- As `memRead_of_same`, for a write. -/
theorem memWrite_of_same (a : Word) (v : Byte) {s t : State} (hr : t.ram = s.ram) (hc : t.cart = s.cart)
    (hp : t.picture = s.picture) (hs : t.sound = s.sound) (h1 : t.dmaPage = s.dmaPage)
    (h2 : t.dmaActive = s.dmaActive) (h3 : t.dmaPhase = s.dmaPhase) :
    memWrite a v t = { t with
      ram := (memWrite a v s).ram, picture := (memWrite a v s).picture, sound := (memWrite a v s).sound,
      dmaPage := (memWrite a v s).dmaPage, dmaActive := (memWrite a v s).dmaActive,
      dmaPhase := (memWrite a v s).dmaPhase } := by
  have hcw : cartCpuWrite a v t = cartCpuWrite a v s := by simp [cartCpuWrite, hc]
  unfold memWrite
  rw [hcw]
  cases t
  split_ifs <;> simp_all [writeRam, pictureCall, soundCall, armDma]

/-! ## The resolver does not look at the pc -/

theorem readWord_fst_of_same (l h : Word) {s t : State} (hr : t.ram = s.ram) (hc : t.cart = s.cart)
    (hp : t.picture = s.picture) (hs : t.sound = s.sound) : (readWord l h t).1 = (readWord l h s).1 := by
  have e1 := memRead_of_same l hr hc hp hs
  have e2 := memRead_of_same (s := (memRead l s).2) (t := (memRead l t).2) h (by simp [hr]) (by simp [hc])
    (by rw [e1.2]) (by rw [e1.2])
  simp [readWord, e1.1, e2.1]

/-- The effective address and the crossing of an operand, but for the address of an immediate operand, which is not
read: the same after the fetch has moved PC. -/
theorem resolve_startInstr (o : Operand) (op : Byte) (len : Word) (s : State) (h : ∀ v, o ≠ .imm v) :
    (resolve o (startInstr op len s)).addr = (resolve o s).addr ∧
      (resolve o (startInstr op len s)).crossed = (resolve o s).crossed := by
  have e : ∀ l hh : Word, (readWord l hh (startInstr op len s)).1 = (readWord l hh s).1 :=
    fun l hh => readWord_fst_of_same l hh rfl rfl rfl rfl
  cases o <;> simp_all [resolve, indexed, readPointer]

theorem resolve_imm_crossed (v : Byte) (s : State) : (resolve (.imm v) s).crossed = false := rfl

theorem resolve_crossed_startInstr (o : Operand) (op : Byte) (len : Word) (s : State) :
    (resolve o (startInstr op len s)).crossed = (resolve o s).crossed := by
  cases o with
  | imm v => rfl
  | _ => exact (resolve_startInstr _ op len s (fun _ => Operand.noConfusion)).2

/-- The data read of a load does not look at the CPU either. -/
theorem readOperand_start (o : Operand) (op : Byte) (len : Word) (b : Bool) (s : State) :
    readOperand o (resolve o (startInstr op len s)).addr (setPageCrossed b (startInstr op len s)) =
      ((readOperand o (resolve o s).addr s).1,
        { setPageCrossed b (startInstr op len s) with
          picture := (readOperand o (resolve o s).addr s).2.picture,
          sound := (readOperand o (resolve o s).addr s).2.sound }) := by
  have e : ∀ a, memRead a (setPageCrossed b (startInstr op len s)) =
      ((memRead a s).1, { setPageCrossed b (startInstr op len s) with
          picture := (memRead a s).2.picture, sound := (memRead a s).2.sound }) := fun a =>
    Prod.ext_iff.2 (memRead_of_same a rfl rfl rfl rfl)
  cases o with
  | imm v => rfl
  | _ =>
    simp only [readOperand]
    rw [(resolve_startInstr _ op len s (fun _ => Operand.noConfusion)).1, e]

/-! ## The four meanings in closed form -/

/-- The load handler (R130, R134, R170): the register, Z and N from the byte, PC, `opcode`, `cycles`, the transient
flags, and the collaborators as the data read left them. Nothing else. -/
theorem loadInstr_eq (r : Reg) (op base : Byte) {o : Operand} (s : State) (h : ∀ p, o ≠ .ind p) :
    loadInstr r op base o s = .next (setReg r (readOperand o (resolve o s).addr s).1 { s with
      p := loadFlags (readOperand o (resolve o s).addr s).1 s.p
      pc := s.pc + instrLength o
      opcode := op
      cycles := base + indexPenalty (operandMode o) (resolve o s).crossed
      branchTaken := false
      pageCrossed := (resolve o s).crossed
      picture := (readOperand o (resolve o s).addr s).2.picture
      sound := (readOperand o (resolve o s).addr s).2.sound }) := by
  simp only [loadInstr, loadFrom, resolve_state o _ h, readOperand_start, resolve_crossed_startInstr]
  cases r <;> rfl

/-- The store handler (R130, R134, R200): one bus write, PC, `opcode`, `cycles`, the transient flags. Nothing else. -/
theorem storeInstr_eq (r : Reg) (op base : Byte) {o : Operand} (s : State) (h : ∀ p, o ≠ .ind p)
    (h' : ∀ v, o ≠ .imm v) :
    storeInstr r op base o s = .next { s with
      ram := (memWrite (resolve o s).addr (getReg r s) s).ram
      picture := (memWrite (resolve o s).addr (getReg r s) s).picture
      sound := (memWrite (resolve o s).addr (getReg r s) s).sound
      dmaPage := (memWrite (resolve o s).addr (getReg r s) s).dmaPage
      dmaActive := (memWrite (resolve o s).addr (getReg r s) s).dmaActive
      dmaPhase := (memWrite (resolve o s).addr (getReg r s) s).dmaPhase
      pc := s.pc + instrLength o
      opcode := op
      cycles := base + indexPenalty (operandMode o) (resolve o s).crossed
      branchTaken := false
      pageCrossed := (resolve o s).crossed } := by
  have hg : ∀ b, getReg r (setPageCrossed b (startInstr op (instrLength o) s)) = getReg r s := by
    intro b; cases r <;> rfl
  simp only [storeInstr, storeTo, resolve_state o _ h, resolve_crossed_startInstr, hg,
    (resolve_startInstr o op (instrLength o) s h').1]
  rw [memWrite_of_same (s := s) (t := setPageCrossed _ (startInstr op (instrLength o) s)) _ _ rfl rfl rfl rfl rfl rfl rfl]
  rfl

/-- The branch handler (R130, R135, R220). -/
theorem branchInstr_eq (c : Cond) (op base r : Byte) (s : State) :
    branchInstr c op base r s = .next { s with
      pc := if condHolds c s.p then s.pc + 2#16 + sext r else s.pc + 2#16
      opcode := op
      cycles := base + branchPenalty (condHolds c s.p)
        (condHolds c s.p && page (s.pc + 2#16 + sext r) != page (s.pc + 2#16))
      branchTaken := condHolds c s.p
      pageCrossed := condHolds c s.p && page (s.pc + 2#16 + sext r) != page (s.pc + 2#16) } := by
  unfold branchInstr branchTo
  cases h : condHolds c s.p <;> simp [h, startInstr, takeBranch, setCycles]

/-- An unimplemented opcode (R230, R231). -/
theorem unimpInstr_eq (op : Byte) (s : State) :
    unimpInstr op s = .next { s with
      pc := s.pc + 1#16, opcode := op, cycles := 1#8, branchTaken := false, pageCrossed := false } := rfl

/-! ## Interrupt entry in closed form -/

theorem stackAddr_le (sp : Byte) : stackAddr sp ≤ 0x1FFF#16 := by
  have := sp.isLt
  simp only [stackAddr, BitVec.le_def, BitVec.toNat_add, BitVec.toNat_setWidth, BitVec.toNat_ofNat]
  omega

theorem ramCell_stackAddr (sp : Byte) : ramCell (stackAddr sp) = 0x100 + sp.toNat := by
  revert sp
  decide

/-- A push is a write to the RAM cell of the stack page, and SP one down (R23). -/
theorem push_eq (v : Byte) (s : State) :
    push v s = { s with ram := cellsWrite .ram (0x100 + s.sp.toNat) v s.ram, sp := s.sp - 1#8 } := by
  unfold push
  rw [memWrite_ram s v (stackAddr_le s.sp), ramCell_stackAddr]
  rfl

/-- A bus read outside the RAM window does not look at RAM. -/
theorem memRead_high {a : Word} (h : ¬ a ≤ 0x1FFF#16) {s t : State} (hc : t.cart = s.cart)
    (hp : t.picture = s.picture) (hs : t.sound = s.sound) : (memRead a t).1 = (memRead a s).1 := by
  have hcr : cartCpuRead a t = cartCpuRead a s := by simp [cartCpuRead, hc]
  unfold memRead
  rw [hcr]
  cases cartCpuRead a s with
  | some d => rfl
  | none => simp only [h, if_false]; split_ifs <;> simp_all

/-- At or above 0x8000 a bus read has no side effect (R73, R74, R286). -/
theorem memRead_rom {a : Word} (h : 0x8000#16 ≤ a) (s : State) : (memRead a s).2 = s := by
  unfold memRead
  cases cartCpuRead a s with
  | some d => rfl
  | none =>
    have h1 : ¬ a ≤ 0x1FFF#16 := by bv_omega
    have h2 : ¬ a ≤ 0x3FFF#16 := by bv_omega
    have h3 : inSoundWindow a = false := by
      simp only [inSoundWindow, Bool.or_eq_false_iff, Bool.and_eq_false_iff, decide_eq_false_iff_not, beq_eq_false_iff_ne]
      constructor
      · right; bv_omega
      · bv_omega
    simp [h1, h2, h3]

/-- The word at a vector in the cartridge window: two reads without side effect (R75, R311). -/
theorem readVector_rom {v : Word} (h : 0x8000#16 ≤ v) (h' : 0x8000#16 ≤ v + 1#16) (s : State) :
    readVector v s = (wordOf (memRead (v + 1#16) s).1 (memRead v s).1, s) := by
  simp [readVector, readWord, memRead_rom h, memRead_rom h']

/-- TAKING AN INTERRUPT (R305) in closed form. -/
theorem interruptEntry_eq {vec : Word} (latency : Byte) (s : State) (h : 0x8000#16 ≤ vec)
    (h' : 0x8000#16 ≤ vec + 1#16) :
    interruptEntry vec latency s = { s with
      ram := cellsWrite .ram (0x100 + (s.sp - 2#8).toNat) (entryStatus s.p)
        (cellsWrite .ram (0x100 + (s.sp - 1#8).toNat) (lowByte s.pc)
          (cellsWrite .ram (0x100 + s.sp.toNat) (highByte s.pc) s.ram))
      sp := s.sp - 3#8
      p := setFlag .interruptDisable true (entryStatus s.p)
      pc := wordOf (memRead (vec + 1#16) s).1 (memRead vec s).1
      cycles := latency } := by
  have n1 : ¬ vec ≤ 0x1FFF#16 := by bv_omega
  have n2 : ¬ vec + 1#16 ≤ 0x1FFF#16 := by bv_omega
  have e1 : s.sp - 1#8 - 1#8 = s.sp - 2#8 := by bv_omega
  have e2 : s.sp - 2#8 - 1#8 = s.sp - 3#8 := by bv_omega
  simp only [interruptEntry, push_eq, setP, readVector_rom h h', setPc, setCycles, e1, e2]
  congr 1
  exact congrArg₂ wordOf (memRead_high n2 rfl rfl rfl) (memRead_high n1 rfl rfl rfl)

end Sys2Proof.Machine
end

