-- ==== Sys2Proof/Laws/MemoryForm.lean ====
section
/-!
SUPPORT. Laws/MemoryForm.lean: every operation that writes RAM, PRG or CHR keeps the canonical form of the array.
-/

namespace Sys2Proof.Machine

theorem reset_ramWf : cellsWf .ram ramSize State.reset.ram = true := rfl

/-- A bus write keeps RAM's form. -/
theorem memWrite_ramWf {s : State} (h : cellsWf .ram ramSize s.ram = true) (a : Word) (v : Byte) :
    cellsWf .ram ramSize (memWrite a v s).ram = true := by
  rcases memWrite_ram_cases s a v with e | ⟨_, e⟩ <;> rw [e]
  · exact h
  · exact cellsWf_write h (ramCell_lt a)

/-- A push keeps RAM's form. -/
theorem push_ramWf {s : State} (h : cellsWf .ram ramSize s.ram = true) (v : Byte) :
    cellsWf .ram ramSize (push v s).ram = true :=
  memWrite_ramWf h _ v

/-- Interrupt entry keeps RAM's form. -/
theorem interruptEntry_ramWf {s : State} (h : cellsWf .ram ramSize s.ram = true) (vec : Word) (latency : Byte) :
    cellsWf .ram ramSize (interruptEntry vec latency s).ram = true := by
  simp only [interruptEntry, setCycles_ram, setPc_ram, readVector_ram, setP_ram]
  refine push_ramWf ?_ _
  rw [setP_ram]
  exact push_ramWf (push_ramWf h _) _

/-- A picture-side write keeps the cartridge's form. -/
theorem cartridgePpuWrite_wf {c : Cartridge} (h : cartWf c = true) (a : PicAddr) (v : Byte) :
    cartWf (cartridgePpuWrite c a v).1 = true := by
  unfold cartridgePpuWrite
  cases c.mapper
  dsimp only
  split_ifs with h1 h2
  · have e : chrIsRam { c with chr := cellsWrite .chrRam a.toNat v c.chr } = true := h2
    unfold cartWf at h ⊢
    simp only [Bool.and_eq_true, chrRegion, chrLength, h2, e, if_true] at h ⊢
    refine ⟨h.1, cellsWf_write h.2 ?_⟩
    bv_omega
  · exact h
  · exact h

theorem cellsSlice_zero (lo : Nat) (m : Cells) : cellsSlice lo 0 m = [] := by
  induction m with
  | nil => rfl
  | cons c rest ih =>
    unfold cellsSlice
    rw [if_neg (by omega), ih]

/-- The cartridge made of an image in canonical form is in canonical form. -/
theorem imageCartridge_wf {im : RomImage} (h : imageWf im = true) : cartWf (imageCartridge im) = true := by
  unfold cartWf imageWf at *
  simp only [Bool.and_eq_true]
  refine ⟨cellsWf_slice h, ?_⟩
  by_cases h5 : imageByte im 5 = 0#8
  · simp only [imageCartridge, h5]
    show cellsWf _ _ (cellsSlice _ (0 * 8192) _) = true
    rw [Nat.zero_mul, cellsSlice_zero]
    rfl
  · have e : chrIsRam (imageCartridge im) = false := by simp [chrIsRam, imageCartridge, h5]
    simp only [chrRegion, chrLength, e]
    exact cellsWf_slice h

/-- Placing a byte for the host keeps the form of RAM and of the cartridge. -/
theorem placeByte_wf {s : State} (hr : cellsWf .ram ramSize s.ram = true) (hc : ∀ c, s.cart = some c → cartWf c = true)
    (a : Word) (v : Byte) (hp : placeable a s = true) :
    cellsWf .ram ramSize (placeByte a v s).ram = true ∧ ∀ c, (placeByte a v s).cart = some c → cartWf c = true := by
  unfold placeByte placeable at *
  by_cases ha : a ≤ 0x1FFF#16
  · rw [if_pos ha]
    exact ⟨cellsWf_write hr (ramCell_lt a), hc⟩
  · rw [if_neg ha]
    cases e : s.cart with
    | none => exact ⟨hr, hc⟩
    | some c =>
      refine ⟨hr, ?_⟩
      rintro d ⟨⟩
      rw [e] at hp
      simp only [ha, decide_false, Bool.false_or, Bool.and_eq_true, bne_iff_ne] at hp
      have h := hc c e
      unfold cartWf at h ⊢
      simp only [Bool.and_eq_true] at h ⊢
      exact ⟨cellsWf_write h.1 (Nat.mod_lt _ (Nat.pos_of_ne_zero hp.2)), h.2⟩

end Sys2Proof.Machine
end

