-- ==== Sys2Proof/Laws/PerInstr.lean ====
section
/-!
SUPPORT. Laws/PerInstr.lean: the family EncodedLength: for each instruction, its encoding has the length of its mode, and
its opcode byte selects its own descriptor (R100, R103, R105).
-/

namespace Sys2Proof.Laws.EncodedLength

/-- The encoding is as long as the descriptor's mode says, and `DESC` of the opcode byte is the descriptor. -/
def Statement (i : Instr) : Prop := (encode i).length = i.descriptor.mode.length ∧ DESC i.opcode = i.descriptor

theorem ldaImm (v : Byte) : Statement (.ldaImm v) := ⟨rfl, rfl⟩
theorem ldaZp0 (z : Byte) : Statement (.ldaZp0 z) := ⟨rfl, rfl⟩
theorem ldaZpx (z : Byte) : Statement (.ldaZpx z) := ⟨rfl, rfl⟩
theorem ldaAbs (addr : Word) : Statement (.ldaAbs addr) := ⟨rfl, rfl⟩
theorem ldaAbx (addr : Word) : Statement (.ldaAbx addr) := ⟨rfl, rfl⟩
theorem ldaAby (addr : Word) : Statement (.ldaAby addr) := ⟨rfl, rfl⟩
theorem ldaIzx (z : Byte) : Statement (.ldaIzx z) := ⟨rfl, rfl⟩
theorem ldaIzy (z : Byte) : Statement (.ldaIzy z) := ⟨rfl, rfl⟩
theorem ldxImm (v : Byte) : Statement (.ldxImm v) := ⟨rfl, rfl⟩
theorem ldxZp0 (z : Byte) : Statement (.ldxZp0 z) := ⟨rfl, rfl⟩
theorem ldxZpy (z : Byte) : Statement (.ldxZpy z) := ⟨rfl, rfl⟩
theorem ldxAbs (addr : Word) : Statement (.ldxAbs addr) := ⟨rfl, rfl⟩
theorem ldxAby (addr : Word) : Statement (.ldxAby addr) := ⟨rfl, rfl⟩
theorem ldyImm (v : Byte) : Statement (.ldyImm v) := ⟨rfl, rfl⟩
theorem ldyZp0 (z : Byte) : Statement (.ldyZp0 z) := ⟨rfl, rfl⟩
theorem ldyZpx (z : Byte) : Statement (.ldyZpx z) := ⟨rfl, rfl⟩
theorem ldyAbs (addr : Word) : Statement (.ldyAbs addr) := ⟨rfl, rfl⟩
theorem ldyAbx (addr : Word) : Statement (.ldyAbx addr) := ⟨rfl, rfl⟩
theorem staZp0 (z : Byte) : Statement (.staZp0 z) := ⟨rfl, rfl⟩
theorem staZpx (z : Byte) : Statement (.staZpx z) := ⟨rfl, rfl⟩
theorem staAbs (addr : Word) : Statement (.staAbs addr) := ⟨rfl, rfl⟩
theorem staAbx (addr : Word) : Statement (.staAbx addr) := ⟨rfl, rfl⟩
theorem staAby (addr : Word) : Statement (.staAby addr) := ⟨rfl, rfl⟩
theorem staIzx (z : Byte) : Statement (.staIzx z) := ⟨rfl, rfl⟩
theorem staIzy (z : Byte) : Statement (.staIzy z) := ⟨rfl, rfl⟩
theorem stxZp0 (z : Byte) : Statement (.stxZp0 z) := ⟨rfl, rfl⟩
theorem stxZpy (z : Byte) : Statement (.stxZpy z) := ⟨rfl, rfl⟩
theorem stxAbs (addr : Word) : Statement (.stxAbs addr) := ⟨rfl, rfl⟩
theorem styZp0 (z : Byte) : Statement (.styZp0 z) := ⟨rfl, rfl⟩
theorem styZpx (z : Byte) : Statement (.styZpx z) := ⟨rfl, rfl⟩
theorem styAbs (addr : Word) : Statement (.styAbs addr) := ⟨rfl, rfl⟩
theorem bcc (r : Byte) : Statement (.bcc r) := ⟨rfl, rfl⟩
theorem bcs (r : Byte) : Statement (.bcs r) := ⟨rfl, rfl⟩
theorem bne (r : Byte) : Statement (.bne r) := ⟨rfl, rfl⟩
theorem beq (r : Byte) : Statement (.beq r) := ⟨rfl, rfl⟩
theorem unimp00 : Statement .unimp00 := ⟨rfl, rfl⟩
theorem unimp01 : Statement .unimp01 := ⟨rfl, rfl⟩
theorem unimp02 : Statement .unimp02 := ⟨rfl, rfl⟩
theorem unimp03 : Statement .unimp03 := ⟨rfl, rfl⟩
theorem unimp04 : Statement .unimp04 := ⟨rfl, rfl⟩
theorem unimp05 : Statement .unimp05 := ⟨rfl, rfl⟩
theorem unimp06 : Statement .unimp06 := ⟨rfl, rfl⟩
theorem unimp07 : Statement .unimp07 := ⟨rfl, rfl⟩
theorem unimp08 : Statement .unimp08 := ⟨rfl, rfl⟩
theorem unimp09 : Statement .unimp09 := ⟨rfl, rfl⟩
theorem unimp0A : Statement .unimp0A := ⟨rfl, rfl⟩
theorem unimp0B : Statement .unimp0B := ⟨rfl, rfl⟩
theorem unimp0C : Statement .unimp0C := ⟨rfl, rfl⟩
theorem unimp0D : Statement .unimp0D := ⟨rfl, rfl⟩
theorem unimp0E : Statement .unimp0E := ⟨rfl, rfl⟩
theorem unimp0F : Statement .unimp0F := ⟨rfl, rfl⟩
theorem unimp10 : Statement .unimp10 := ⟨rfl, rfl⟩
theorem unimp11 : Statement .unimp11 := ⟨rfl, rfl⟩
theorem unimp12 : Statement .unimp12 := ⟨rfl, rfl⟩
theorem unimp13 : Statement .unimp13 := ⟨rfl, rfl⟩
theorem unimp14 : Statement .unimp14 := ⟨rfl, rfl⟩
theorem unimp15 : Statement .unimp15 := ⟨rfl, rfl⟩
theorem unimp16 : Statement .unimp16 := ⟨rfl, rfl⟩
theorem unimp17 : Statement .unimp17 := ⟨rfl, rfl⟩
theorem unimp18 : Statement .unimp18 := ⟨rfl, rfl⟩
theorem unimp19 : Statement .unimp19 := ⟨rfl, rfl⟩
theorem unimp1A : Statement .unimp1A := ⟨rfl, rfl⟩
theorem unimp1B : Statement .unimp1B := ⟨rfl, rfl⟩
theorem unimp1C : Statement .unimp1C := ⟨rfl, rfl⟩
theorem unimp1D : Statement .unimp1D := ⟨rfl, rfl⟩
theorem unimp1E : Statement .unimp1E := ⟨rfl, rfl⟩
theorem unimp1F : Statement .unimp1F := ⟨rfl, rfl⟩
theorem unimp20 : Statement .unimp20 := ⟨rfl, rfl⟩
theorem unimp21 : Statement .unimp21 := ⟨rfl, rfl⟩
theorem unimp22 : Statement .unimp22 := ⟨rfl, rfl⟩
theorem unimp23 : Statement .unimp23 := ⟨rfl, rfl⟩
theorem unimp24 : Statement .unimp24 := ⟨rfl, rfl⟩
theorem unimp25 : Statement .unimp25 := ⟨rfl, rfl⟩
theorem unimp26 : Statement .unimp26 := ⟨rfl, rfl⟩
theorem unimp27 : Statement .unimp27 := ⟨rfl, rfl⟩
theorem unimp28 : Statement .unimp28 := ⟨rfl, rfl⟩
theorem unimp29 : Statement .unimp29 := ⟨rfl, rfl⟩
theorem unimp2A : Statement .unimp2A := ⟨rfl, rfl⟩
theorem unimp2B : Statement .unimp2B := ⟨rfl, rfl⟩
theorem unimp2C : Statement .unimp2C := ⟨rfl, rfl⟩
theorem unimp2D : Statement .unimp2D := ⟨rfl, rfl⟩
theorem unimp2E : Statement .unimp2E := ⟨rfl, rfl⟩
theorem unimp2F : Statement .unimp2F := ⟨rfl, rfl⟩
theorem unimp30 : Statement .unimp30 := ⟨rfl, rfl⟩
theorem unimp31 : Statement .unimp31 := ⟨rfl, rfl⟩
theorem unimp32 : Statement .unimp32 := ⟨rfl, rfl⟩
theorem unimp33 : Statement .unimp33 := ⟨rfl, rfl⟩
theorem unimp34 : Statement .unimp34 := ⟨rfl, rfl⟩
theorem unimp35 : Statement .unimp35 := ⟨rfl, rfl⟩
theorem unimp36 : Statement .unimp36 := ⟨rfl, rfl⟩
theorem unimp37 : Statement .unimp37 := ⟨rfl, rfl⟩
theorem unimp38 : Statement .unimp38 := ⟨rfl, rfl⟩
theorem unimp39 : Statement .unimp39 := ⟨rfl, rfl⟩
theorem unimp3A : Statement .unimp3A := ⟨rfl, rfl⟩
theorem unimp3B : Statement .unimp3B := ⟨rfl, rfl⟩
theorem unimp3C : Statement .unimp3C := ⟨rfl, rfl⟩
theorem unimp3D : Statement .unimp3D := ⟨rfl, rfl⟩
theorem unimp3E : Statement .unimp3E := ⟨rfl, rfl⟩
theorem unimp3F : Statement .unimp3F := ⟨rfl, rfl⟩
theorem unimp40 : Statement .unimp40 := ⟨rfl, rfl⟩
theorem unimp41 : Statement .unimp41 := ⟨rfl, rfl⟩
theorem unimp42 : Statement .unimp42 := ⟨rfl, rfl⟩
theorem unimp43 : Statement .unimp43 := ⟨rfl, rfl⟩
theorem unimp44 : Statement .unimp44 := ⟨rfl, rfl⟩
theorem unimp45 : Statement .unimp45 := ⟨rfl, rfl⟩
theorem unimp46 : Statement .unimp46 := ⟨rfl, rfl⟩
theorem unimp47 : Statement .unimp47 := ⟨rfl, rfl⟩
theorem unimp48 : Statement .unimp48 := ⟨rfl, rfl⟩
theorem unimp49 : Statement .unimp49 := ⟨rfl, rfl⟩
theorem unimp4A : Statement .unimp4A := ⟨rfl, rfl⟩
theorem unimp4B : Statement .unimp4B := ⟨rfl, rfl⟩
theorem unimp4C : Statement .unimp4C := ⟨rfl, rfl⟩
theorem unimp4D : Statement .unimp4D := ⟨rfl, rfl⟩
theorem unimp4E : Statement .unimp4E := ⟨rfl, rfl⟩
theorem unimp4F : Statement .unimp4F := ⟨rfl, rfl⟩
theorem unimp50 : Statement .unimp50 := ⟨rfl, rfl⟩
theorem unimp51 : Statement .unimp51 := ⟨rfl, rfl⟩
theorem unimp52 : Statement .unimp52 := ⟨rfl, rfl⟩
theorem unimp53 : Statement .unimp53 := ⟨rfl, rfl⟩
theorem unimp54 : Statement .unimp54 := ⟨rfl, rfl⟩
theorem unimp55 : Statement .unimp55 := ⟨rfl, rfl⟩
theorem unimp56 : Statement .unimp56 := ⟨rfl, rfl⟩
theorem unimp57 : Statement .unimp57 := ⟨rfl, rfl⟩
theorem unimp58 : Statement .unimp58 := ⟨rfl, rfl⟩
theorem unimp59 : Statement .unimp59 := ⟨rfl, rfl⟩
theorem unimp5A : Statement .unimp5A := ⟨rfl, rfl⟩
theorem unimp5B : Statement .unimp5B := ⟨rfl, rfl⟩
theorem unimp5C : Statement .unimp5C := ⟨rfl, rfl⟩
theorem unimp5D : Statement .unimp5D := ⟨rfl, rfl⟩
theorem unimp5E : Statement .unimp5E := ⟨rfl, rfl⟩
theorem unimp5F : Statement .unimp5F := ⟨rfl, rfl⟩
theorem unimp60 : Statement .unimp60 := ⟨rfl, rfl⟩
theorem unimp61 : Statement .unimp61 := ⟨rfl, rfl⟩
theorem unimp62 : Statement .unimp62 := ⟨rfl, rfl⟩
theorem unimp63 : Statement .unimp63 := ⟨rfl, rfl⟩
theorem unimp64 : Statement .unimp64 := ⟨rfl, rfl⟩
theorem unimp65 : Statement .unimp65 := ⟨rfl, rfl⟩
theorem unimp66 : Statement .unimp66 := ⟨rfl, rfl⟩
theorem unimp67 : Statement .unimp67 := ⟨rfl, rfl⟩
theorem unimp68 : Statement .unimp68 := ⟨rfl, rfl⟩
theorem unimp69 : Statement .unimp69 := ⟨rfl, rfl⟩
theorem unimp6A : Statement .unimp6A := ⟨rfl, rfl⟩
theorem unimp6B : Statement .unimp6B := ⟨rfl, rfl⟩
theorem unimp6C : Statement .unimp6C := ⟨rfl, rfl⟩
theorem unimp6D : Statement .unimp6D := ⟨rfl, rfl⟩
theorem unimp6E : Statement .unimp6E := ⟨rfl, rfl⟩
theorem unimp6F : Statement .unimp6F := ⟨rfl, rfl⟩
theorem unimp70 : Statement .unimp70 := ⟨rfl, rfl⟩
theorem unimp71 : Statement .unimp71 := ⟨rfl, rfl⟩
theorem unimp72 : Statement .unimp72 := ⟨rfl, rfl⟩
theorem unimp73 : Statement .unimp73 := ⟨rfl, rfl⟩
theorem unimp74 : Statement .unimp74 := ⟨rfl, rfl⟩
theorem unimp75 : Statement .unimp75 := ⟨rfl, rfl⟩
theorem unimp76 : Statement .unimp76 := ⟨rfl, rfl⟩
theorem unimp77 : Statement .unimp77 := ⟨rfl, rfl⟩
theorem unimp78 : Statement .unimp78 := ⟨rfl, rfl⟩
theorem unimp79 : Statement .unimp79 := ⟨rfl, rfl⟩
theorem unimp7A : Statement .unimp7A := ⟨rfl, rfl⟩
theorem unimp7B : Statement .unimp7B := ⟨rfl, rfl⟩
theorem unimp7C : Statement .unimp7C := ⟨rfl, rfl⟩
theorem unimp7D : Statement .unimp7D := ⟨rfl, rfl⟩
theorem unimp7E : Statement .unimp7E := ⟨rfl, rfl⟩
theorem unimp7F : Statement .unimp7F := ⟨rfl, rfl⟩
theorem unimp80 : Statement .unimp80 := ⟨rfl, rfl⟩
theorem unimp82 : Statement .unimp82 := ⟨rfl, rfl⟩
theorem unimp83 : Statement .unimp83 := ⟨rfl, rfl⟩
theorem unimp87 : Statement .unimp87 := ⟨rfl, rfl⟩
theorem unimp88 : Statement .unimp88 := ⟨rfl, rfl⟩
theorem unimp89 : Statement .unimp89 := ⟨rfl, rfl⟩
theorem unimp8A : Statement .unimp8A := ⟨rfl, rfl⟩
theorem unimp8B : Statement .unimp8B := ⟨rfl, rfl⟩
theorem unimp8F : Statement .unimp8F := ⟨rfl, rfl⟩
theorem unimp92 : Statement .unimp92 := ⟨rfl, rfl⟩
theorem unimp93 : Statement .unimp93 := ⟨rfl, rfl⟩
theorem unimp97 : Statement .unimp97 := ⟨rfl, rfl⟩
theorem unimp98 : Statement .unimp98 := ⟨rfl, rfl⟩
theorem unimp9A : Statement .unimp9A := ⟨rfl, rfl⟩
theorem unimp9B : Statement .unimp9B := ⟨rfl, rfl⟩
theorem unimp9C : Statement .unimp9C := ⟨rfl, rfl⟩
theorem unimp9E : Statement .unimp9E := ⟨rfl, rfl⟩
theorem unimp9F : Statement .unimp9F := ⟨rfl, rfl⟩
theorem unimpA3 : Statement .unimpA3 := ⟨rfl, rfl⟩
theorem unimpA7 : Statement .unimpA7 := ⟨rfl, rfl⟩
theorem unimpA8 : Statement .unimpA8 := ⟨rfl, rfl⟩
theorem unimpAA : Statement .unimpAA := ⟨rfl, rfl⟩
theorem unimpAB : Statement .unimpAB := ⟨rfl, rfl⟩
theorem unimpAF : Statement .unimpAF := ⟨rfl, rfl⟩
theorem unimpB2 : Statement .unimpB2 := ⟨rfl, rfl⟩
theorem unimpB3 : Statement .unimpB3 := ⟨rfl, rfl⟩
theorem unimpB7 : Statement .unimpB7 := ⟨rfl, rfl⟩
theorem unimpB8 : Statement .unimpB8 := ⟨rfl, rfl⟩
theorem unimpBA : Statement .unimpBA := ⟨rfl, rfl⟩
theorem unimpBB : Statement .unimpBB := ⟨rfl, rfl⟩
theorem unimpBF : Statement .unimpBF := ⟨rfl, rfl⟩
theorem unimpC0 : Statement .unimpC0 := ⟨rfl, rfl⟩
theorem unimpC1 : Statement .unimpC1 := ⟨rfl, rfl⟩
theorem unimpC2 : Statement .unimpC2 := ⟨rfl, rfl⟩
theorem unimpC3 : Statement .unimpC3 := ⟨rfl, rfl⟩
theorem unimpC4 : Statement .unimpC4 := ⟨rfl, rfl⟩
theorem unimpC5 : Statement .unimpC5 := ⟨rfl, rfl⟩
theorem unimpC6 : Statement .unimpC6 := ⟨rfl, rfl⟩
theorem unimpC7 : Statement .unimpC7 := ⟨rfl, rfl⟩
theorem unimpC8 : Statement .unimpC8 := ⟨rfl, rfl⟩
theorem unimpC9 : Statement .unimpC9 := ⟨rfl, rfl⟩
theorem unimpCA : Statement .unimpCA := ⟨rfl, rfl⟩
theorem unimpCB : Statement .unimpCB := ⟨rfl, rfl⟩
theorem unimpCC : Statement .unimpCC := ⟨rfl, rfl⟩
theorem unimpCD : Statement .unimpCD := ⟨rfl, rfl⟩
theorem unimpCE : Statement .unimpCE := ⟨rfl, rfl⟩
theorem unimpCF : Statement .unimpCF := ⟨rfl, rfl⟩
theorem unimpD1 : Statement .unimpD1 := ⟨rfl, rfl⟩
theorem unimpD2 : Statement .unimpD2 := ⟨rfl, rfl⟩
theorem unimpD3 : Statement .unimpD3 := ⟨rfl, rfl⟩
theorem unimpD4 : Statement .unimpD4 := ⟨rfl, rfl⟩
theorem unimpD5 : Statement .unimpD5 := ⟨rfl, rfl⟩
theorem unimpD6 : Statement .unimpD6 := ⟨rfl, rfl⟩
theorem unimpD7 : Statement .unimpD7 := ⟨rfl, rfl⟩
theorem unimpD8 : Statement .unimpD8 := ⟨rfl, rfl⟩
theorem unimpD9 : Statement .unimpD9 := ⟨rfl, rfl⟩
theorem unimpDA : Statement .unimpDA := ⟨rfl, rfl⟩
theorem unimpDB : Statement .unimpDB := ⟨rfl, rfl⟩
theorem unimpDC : Statement .unimpDC := ⟨rfl, rfl⟩
theorem unimpDD : Statement .unimpDD := ⟨rfl, rfl⟩
theorem unimpDE : Statement .unimpDE := ⟨rfl, rfl⟩
theorem unimpDF : Statement .unimpDF := ⟨rfl, rfl⟩
theorem unimpE0 : Statement .unimpE0 := ⟨rfl, rfl⟩
theorem unimpE1 : Statement .unimpE1 := ⟨rfl, rfl⟩
theorem unimpE2 : Statement .unimpE2 := ⟨rfl, rfl⟩
theorem unimpE3 : Statement .unimpE3 := ⟨rfl, rfl⟩
theorem unimpE4 : Statement .unimpE4 := ⟨rfl, rfl⟩
theorem unimpE5 : Statement .unimpE5 := ⟨rfl, rfl⟩
theorem unimpE6 : Statement .unimpE6 := ⟨rfl, rfl⟩
theorem unimpE7 : Statement .unimpE7 := ⟨rfl, rfl⟩
theorem unimpE8 : Statement .unimpE8 := ⟨rfl, rfl⟩
theorem unimpE9 : Statement .unimpE9 := ⟨rfl, rfl⟩
theorem unimpEA : Statement .unimpEA := ⟨rfl, rfl⟩
theorem unimpEB : Statement .unimpEB := ⟨rfl, rfl⟩
theorem unimpEC : Statement .unimpEC := ⟨rfl, rfl⟩
theorem unimpED : Statement .unimpED := ⟨rfl, rfl⟩
theorem unimpEE : Statement .unimpEE := ⟨rfl, rfl⟩
theorem unimpEF : Statement .unimpEF := ⟨rfl, rfl⟩
theorem unimpF1 : Statement .unimpF1 := ⟨rfl, rfl⟩
theorem unimpF2 : Statement .unimpF2 := ⟨rfl, rfl⟩
theorem unimpF3 : Statement .unimpF3 := ⟨rfl, rfl⟩
theorem unimpF4 : Statement .unimpF4 := ⟨rfl, rfl⟩
theorem unimpF5 : Statement .unimpF5 := ⟨rfl, rfl⟩
theorem unimpF6 : Statement .unimpF6 := ⟨rfl, rfl⟩
theorem unimpF7 : Statement .unimpF7 := ⟨rfl, rfl⟩
theorem unimpF8 : Statement .unimpF8 := ⟨rfl, rfl⟩
theorem unimpF9 : Statement .unimpF9 := ⟨rfl, rfl⟩
theorem unimpFA : Statement .unimpFA := ⟨rfl, rfl⟩
theorem unimpFB : Statement .unimpFB := ⟨rfl, rfl⟩
theorem unimpFC : Statement .unimpFC := ⟨rfl, rfl⟩
theorem unimpFD : Statement .unimpFD := ⟨rfl, rfl⟩
theorem unimpFE : Statement .unimpFE := ⟨rfl, rfl⟩
theorem unimpFF : Statement .unimpFF := ⟨rfl, rfl⟩

end Sys2Proof.Laws.EncodedLength
end

