-- ==== Sys2Proof/Laws/Step.lean ====
section
/-!
SUPPORT. Laws/Step.lean: everything a bus access, a fetch, an instruction, a CPU slot and a system clock can do, each
said once as a frame; and the case split of a step over the calls of the environment.
-/

namespace Sys2Proof.Machine

/-! ## What a CPU or DMA access can do to the collaborators -/

/-- The collaborators' histories after `s` and up to `t` hold more calls of the current tick, and no clock. -/
structure SameTick (s t : State) : Prop where
  pictureTicks : t.picture.ticks = s.picture.ticks
  soundTicks : t.sound.ticks = s.sound.ticks
  pictureCalls : ∀ c ∈ t.picture.calls, c ∈ s.picture.calls ∨ c.1 = s.picture.ticks
  soundCalls : ∀ c ∈ t.sound.calls, c ∈ s.sound.calls ∨ c.1 = s.sound.ticks

theorem SameTick.of_eq {s t : State} (hp : t.picture = s.picture) (hs : t.sound = s.sound) : SameTick s t :=
  ⟨by rw [hp], by rw [hs], by rw [hp]; exact fun c hc => .inl hc, by rw [hs]; exact fun c hc => .inl hc⟩

theorem SameTick.trans {s t u : State} (h : SameTick s t) (k : SameTick t u) : SameTick s u where
  pictureTicks := k.pictureTicks.trans h.pictureTicks
  soundTicks := k.soundTicks.trans h.soundTicks
  pictureCalls c hc := (k.pictureCalls c hc).elim (h.pictureCalls c) fun e => .inr (e.trans h.pictureTicks)
  soundCalls c hc := (k.soundCalls c hc).elim (h.soundCalls c) fun e => .inr (e.trans h.soundTicks)

theorem SameTick.congr {s t u : State} (h : SameTick s t) (hp : u.picture = t.picture) (hs : u.sound = t.sound) :
    SameTick s u := h.trans (.of_eq hp hs)

theorem sameTick_pictureCall (k : PictureCall) (s : State) : SameTick s (pictureCall k s) where
  pictureTicks := rfl
  soundTicks := rfl
  pictureCalls c hc := (List.mem_cons.1 hc).elim (fun e => .inr (by rw [e])) .inl
  soundCalls _ hc := .inl hc

theorem sameTick_soundCall (k : SoundCall) (s : State) : SameTick s (soundCall k s) where
  pictureTicks := rfl
  soundTicks := rfl
  pictureCalls _ hc := .inl hc
  soundCalls c hc := (List.mem_cons.1 hc).elim (fun e => .inr (by rw [e])) .inl

theorem sameTick_memRead (a : Word) (s : State) : SameTick s (memRead a s).2 := by
  rcases memRead_cases s a with e | e | e <;> rw [e]
  · exact .of_eq rfl rfl
  · exact sameTick_pictureCall _ s
  · exact sameTick_soundCall _ s

theorem sameTick_memWrite (a : Word) (v : Byte) (s : State) : SameTick s (memWrite a v s) := by
  rcases memWrite_cases s a v with e | ⟨_, e⟩ | e | e | ⟨_, e⟩ <;> rw [e]
  · exact .of_eq rfl rfl
  · exact .of_eq rfl rfl
  · exact sameTick_pictureCall _ s
  · exact sameTick_soundCall _ s
  · exact .of_eq rfl rfl

/-! ## Fetch -/

/-- A fetch changes nothing but the collaborators' histories, and those only by reads. -/
theorem fetch_frame (s : State) : SameTick s (fetch s).2 ∧
    (fetch s).2 = { s with picture := (fetch s).2.picture, sound := (fetch s).2.sound } := by
  have h0 := fun a s => (memRead_of_same a (s := s) (t := s) rfl rfl rfl rfl).2
  have h1 := h0 s.pc s
  have h2 := h0 (s.pc + 1#16) (memRead s.pc s).2
  have h3 := h0 (s.pc + 2#16) (memRead (s.pc + 1#16) (memRead s.pc s).2).2
  have t1 := sameTick_memRead s.pc s
  have t2 := t1.trans (sameTick_memRead (s.pc + 1#16) (memRead s.pc s).2)
  have t3 := t2.trans (sameTick_memRead (s.pc + 2#16) (memRead (s.pc + 1#16) (memRead s.pc s).2).2)
  unfold fetch
  dsimp only
  split
  · exact ⟨t1, h1⟩
  · refine ⟨t2, ?_⟩
    dsimp only
    rw [h2]
    simp only [memRead_snd_a, memRead_snd_x, memRead_snd_y, memRead_snd_sp, memRead_snd_pc, memRead_snd_p, memRead_snd_opcode,
      memRead_snd_cycles, memRead_snd_totalClocks, memRead_snd_branchTaken, memRead_snd_pageCrossed, memRead_snd_ram, memRead_snd_cart, memRead_snd_clockCount, memRead_snd_dmaActive, memRead_snd_dmaPage, memRead_snd_dmaCursor, memRead_snd_dmaStaging, memRead_snd_dmaPhase, memRead_snd_pending, memRead_snd_reply, memRead_snd_outOfContract]
  · refine ⟨t3, ?_⟩
    dsimp only
    rw [h3]
    simp only [memRead_snd_a, memRead_snd_x, memRead_snd_y, memRead_snd_sp, memRead_snd_pc, memRead_snd_p, memRead_snd_opcode,
      memRead_snd_cycles, memRead_snd_totalClocks, memRead_snd_branchTaken, memRead_snd_pageCrossed, memRead_snd_ram, memRead_snd_cart, memRead_snd_clockCount, memRead_snd_dmaActive, memRead_snd_dmaPage, memRead_snd_dmaCursor, memRead_snd_dmaStaging, memRead_snd_dmaPhase, memRead_snd_pending, memRead_snd_reply, memRead_snd_outOfContract]

/-- A fetch decodes the byte read at PC (R131): the instruction's opcode is that byte, its descriptor the table's. -/
theorem fetch_opcode (s : State) : (fetch s).1.opcode = (memRead s.pc s).1 ∧
    (fetch s).1.descriptor = DESC (memRead s.pc s).1 := by
  have h : ∃ b1 b2, (fetch s).1 = instrOf (memRead s.pc s).1 b1 b2 := by
    unfold fetch
    dsimp only
    split <;> exact ⟨_, _, rfl⟩
  obtain ⟨b1, b2, e⟩ := h
  rw [e]
  exact ⟨(instrOf_spec _ b1 b2).2.1, (instrOf_spec _ b1 b2).1⟩

/-! ## An instruction -/

theorem descriptor_base_le (i : Instr) : i.descriptor.base ≤ 6#8 := by
  have h1 : 1#8 ≤ 6#8 := by decide
  have h2 : 2#8 ≤ 6#8 := by decide
  have h3 : 3#8 ≤ 6#8 := by decide
  have h4 : 4#8 ≤ 6#8 := by decide
  have h5 : 5#8 ≤ 6#8 := by decide
  have h6 : 6#8 ≤ 6#8 := by decide
  cases i <;> first | exact h1 | exact h2 | exact h3 | exact h4 | exact h5 | exact h6

theorem indexPenalty_le (m : Mode) (b : Bool) : indexPenalty m b ≤ 1#8 := by
  cases m <;> cases b <;> decide

theorem branchPenalty_le (t c : Bool) : branchPenalty t c ≤ 2#8 := by
  cases t <;> cases c <;> decide

theorem getFlag_loadFlags {f : Flag} (hz : f ≠ .zero) (hn : f ≠ .negative) (v p : Byte) :
    getFlag f (loadFlags v p) = getFlag f p := by
  have h : ∀ a b : Bool, ∀ p : Byte, getFlag f (setFlag .negative a (setFlag .zero b p)) = getFlag f p := by
    revert f
    intro f
    cases f <;> first | exact fun h => absurd rfl h | exact fun _ h => absurd rfl h | exact fun _ _ => by decide
  exact h _ _ _

theorem not_imm_of_store {i : Instr} {r : Reg} (h : i.descriptor.handler = .store r) (v : Byte) :
    operandOf i ≠ .imm v := by
  revert h
  cases i <;> first | exact fun _ h => Operand.noConfusion h | exact fun h => Handler.noConfusion h

/-- A bus write leaves the DMA controller alone or arms a transfer (R72). -/
theorem memWrite_dma_cases (s : State) (a : Word) (v : Byte) :
    ((memWrite a v s).dmaPage = s.dmaPage ∧ (memWrite a v s).dmaActive = s.dmaActive ∧
      (memWrite a v s).dmaPhase = s.dmaPhase) ∨
    ((memWrite a v s).dmaActive = true ∧ (memWrite a v s).dmaPhase = .read) := by
  rcases memWrite_cases s a v with e | ⟨_, e⟩ | e | e | ⟨_, e⟩ <;> rw [e]
  · exact .inl ⟨rfl, rfl, rfl⟩
  · exact .inl ⟨rfl, rfl, rfl⟩
  · exact .inl ⟨rfl, rfl, rfl⟩
  · exact .inl ⟨rfl, rfl, rfl⟩
  · exact .inr ⟨rfl, rfl⟩

/-- What an instruction can change, whichever it is: everything not named here is kept. -/
structure ExecFrame (i : Instr) (s t : State) : Prop where
  sp : t.sp = s.sp
  totalClocks : t.totalClocks = s.totalClocks
  cart : t.cart = s.cart
  clockCount : t.clockCount = s.clockCount
  dmaCursor : t.dmaCursor = s.dmaCursor
  dmaStaging : t.dmaStaging = s.dmaStaging
  pending : t.pending = s.pending
  reply : t.reply = s.reply
  outOfContract : t.outOfContract = s.outOfContract
  opcode : t.opcode = i.opcode
  cycles : t.cycles ≤ 8#8
  flags : ∀ f : Flag, f ≠ .zero → f ≠ .negative → getFlag f t.p = getFlag f s.p
  dma : (t.dmaPage = s.dmaPage ∧ t.dmaActive = s.dmaActive ∧ t.dmaPhase = s.dmaPhase) ∨
    (t.dmaActive = true ∧ t.dmaPhase = .read)
  ram : t.ram = s.ram ∨ (∃ r, i.descriptor.handler = .store r) ∧
    ∃ n v, n < ramSize ∧ t.ram = cellsWrite .ram n v s.ram
  sameTick : SameTick s t

/-- Every instruction answers a next state, within its frame (R140, R170, R200, R220, R230). -/
theorem exec_frame (i : Instr) (s : State) : ∃ t, exec i s = .next t ∧ ExecFrame i s t := by
  have hb := descriptor_base_le i
  have hx := fun m b => indexPenalty_le m b
  have hc : ∀ m b, i.descriptor.base + indexPenalty m b ≤ 8#8 := by
    intro m b
    have := hx m b
    bv_omega
  rcases exec_cases i s with ⟨r, h, e⟩ | ⟨r, h, e⟩ | ⟨c, d, h, _, e⟩ | ⟨_, e⟩ <;> rw [e]
  · rw [loadInstr_eq _ _ _ _ (operandOf_not_ind i)]
    have ht : SameTick s (readOperand (operandOf i) (resolve (operandOf i) s).addr s).2 := by
      rcases readOperand_cases (operandOf i) (resolve (operandOf i) s).addr s with ⟨v, _, e⟩ | e <;> rw [e]
      · exact .of_eq rfl rfl
      · exact sameTick_memRead _ s
    refine ⟨_, rfl, ?_⟩
    cases r <;> exact
      { sp := rfl, totalClocks := rfl, cart := rfl, clockCount := rfl, dmaCursor := rfl, dmaStaging := rfl,
        pending := rfl, reply := rfl, outOfContract := rfl, opcode := rfl, cycles := hc _ _,
        flags := fun f hz hn => getFlag_loadFlags hz hn _ _, dma := .inl ⟨rfl, rfl, rfl⟩, ram := .inl rfl,
        sameTick := ht.congr rfl rfl }
  · rw [storeInstr_eq _ _ _ _ (operandOf_not_ind i) (not_imm_of_store h)]
    refine ⟨_, rfl, ?_⟩
    exact
      { sp := rfl, totalClocks := rfl, cart := rfl, clockCount := rfl, dmaCursor := rfl, dmaStaging := rfl,
        pending := rfl, reply := rfl, outOfContract := rfl, opcode := rfl, cycles := hc _ _, flags := fun _ _ _ => rfl,
        dma := memWrite_dma_cases s _ _
        ram := by
          rcases memWrite_ram_cases s (resolve (operandOf i) s).addr (getReg r s) with e | ⟨_, e⟩
          · exact .inl e
          · exact .inr ⟨⟨r, h⟩, _, _, ramCell_lt _, e⟩
        sameTick := (sameTick_memWrite (resolve (operandOf i) s).addr (getReg r s) s).congr rfl rfl }
  · rw [branchInstr_eq]
    have := branchPenalty_le (condHolds c s.p) (condHolds c s.p && page (s.pc + 2#16 + sext d) != page (s.pc + 2#16))
    refine ⟨_, rfl, ?_⟩
    exact
      { sp := rfl, totalClocks := rfl, cart := rfl, clockCount := rfl, dmaCursor := rfl, dmaStaging := rfl,
        pending := rfl, reply := rfl, outOfContract := rfl, opcode := rfl, cycles := by dsimp only; bv_omega,
        flags := fun _ _ _ => rfl, dma := .inl ⟨rfl, rfl, rfl⟩, ram := .inl rfl, sameTick := .of_eq rfl rfl }
  · rw [unimpInstr_eq]
    refine ⟨_, rfl, ?_⟩
    exact
      { sp := rfl, totalClocks := rfl, cart := rfl, clockCount := rfl, dmaCursor := rfl, dmaStaging := rfl,
        pending := rfl, reply := rfl, outOfContract := rfl, opcode := rfl, cycles := by dsimp only; decide,
        flags := fun _ _ _ => rfl, dma := .inl ⟨rfl, rfl, rfl⟩, ram := .inl rfl, sameTick := .of_eq rfl rfl }

/-! ## A DMA step, a CPU tick, a system clock -/

/-- The read half of a pair (R245, R246): one bus read into the staging register, and the phase. -/
theorem dmaReadStep_eq (s : State) : dmaReadStep s = { s with
    picture := (memRead (dmaSource s) s).2.picture, sound := (memRead (dmaSource s) s).2.sound,
    dmaStaging := (memRead (dmaSource s) s).1, dmaPhase := .write } := by
  simp only [dmaReadStep]
  rw [(memRead_of_same (dmaSource s) (s := s) (t := s) rfl rfl rfl rfl).2]

/-- What a DMA step can change (R245-R249, R258): the collaborators, the staging register, the phase, the cursor, and
the activity when the cursor wraps. -/
theorem dmaExecute_frame (s : State) : SameTick s (dmaExecute s) ∧
    dmaExecute s = { s with
      dmaStaging := (dmaExecute s).dmaStaging, dmaPhase := (dmaExecute s).dmaPhase,
      dmaCursor := (dmaExecute s).dmaCursor, dmaActive := (dmaExecute s).dmaActive,
      picture := (dmaExecute s).picture, sound := (dmaExecute s).sound } ∧
    (((dmaExecute s).dmaCursor = s.dmaCursor ∧ (dmaExecute s).dmaActive = s.dmaActive ∧
        (dmaExecute s).dmaPhase = .write) ∨
      ((dmaExecute s).dmaPhase = .read ∧ (dmaExecute s).dmaCursor = s.dmaCursor + 1#8 ∧
        (dmaExecute s).dmaActive = if s.dmaCursor + 1#8 = 0x00#8 then false else s.dmaActive)) := by
  unfold dmaExecute
  cases s.dmaPhase with
  | read =>
    refine ⟨(sameTick_memRead (dmaSource s) s).congr rfl rfl, ?_, .inl ⟨?_, ?_, rfl⟩⟩
    · dsimp only
      rw [dmaReadStep_eq]
    · exact memRead_snd_dmaCursor s _
    · exact memRead_snd_dmaActive s _
  | write => exact ⟨(sameTick_pictureCall (.oamDataWrite s.dmaStaging) s).congr rfl rfl, rfl, .inr ⟨rfl, rfl, rfl⟩⟩

/-- What a CPU slot with no transfer active does: a count-down tick, or an instruction (R130, R136, R137). -/
theorem cpuTick_cases (s : State) :
    (s.cycles ≠ 0#8 ∧ cpuTick s = .next { s with cycles := s.cycles - 1#8, totalClocks := s.totalClocks + 1 }) ∨
    (s.cycles = 0#8 ∧ ∃ t, exec (fetch s).1 (fetch s).2 = .next t ∧ ExecFrame (fetch s).1 (fetch s).2 t ∧
      cpuTick s = .next (countTick t)) := by
  unfold cpuTick
  by_cases h : s.cycles = 0#8
  · obtain ⟨t, ht, hf⟩ := exec_frame (fetch s).1 (fetch s).2
    exact .inr ⟨h, t, ht, hf, by rw [if_pos h, fetchTick, ht]; rfl⟩
  · exact .inl ⟨h, by rw [if_neg h]; rfl⟩

/-- Everything one system clock can do: outside the CPU slots nothing but the two clocks and the counter, in a slot a
DMA step, a count-down tick or an instruction between them (R240-R244, R250). -/
theorem busClock_cases (s : State) : ∃ u, busClock s = .next (clockTail u) ∧
    ((s.clockCount % 3 ≠ 0 ∧ u = pictureClock s) ∨
     (s.clockCount % 3 = 0 ∧ s.dmaActive = true ∧ u = dmaExecute (pictureClock s)) ∨
     (s.clockCount % 3 = 0 ∧ s.dmaActive = false ∧ cpuTick (pictureClock s) = .next u)) := by
  unfold busClock cpuSlot
  by_cases h : s.clockCount % 3 = 0
  · cases hd : s.dmaActive with
    | true =>
      refine ⟨_, ?_, .inr (.inl ⟨h, rfl, rfl⟩)⟩
      rw [if_pos (show (pictureClock s).clockCount % 3 = 0 from h),
        if_pos (show (pictureClock s).dmaActive = true from hd)]
      rfl
    | false =>
      have hc : ∃ u, cpuTick (pictureClock s) = .next u := by
        rcases cpuTick_cases (pictureClock s) with ⟨_, e⟩ | ⟨_, t, _, _, e⟩ <;> exact ⟨_, e⟩
      obtain ⟨u, hu⟩ := hc
      refine ⟨u, ?_, .inr (.inr ⟨h, rfl, hu⟩)⟩
      rw [if_pos (show (pictureClock s).clockCount % 3 = 0 from h),
        if_neg (show ¬ (pictureClock s).dmaActive = true by rw [pictureClock_dmaActive, hd]; exact Bool.false_ne_true), hu]
      rfl
  · refine ⟨_, ?_, .inl ⟨h, rfl⟩⟩
    rw [if_neg (show ¬ (pictureClock s).clockCount % 3 = 0 from h)]

/-! ## A step (log 1) -/

/-- With no call pending a step is one system clock. -/
theorem step_of_idle {s : State} (h : s.pending = []) : step s = busClock s := by
  simp only [step, advance, h]

/-- With calls pending a step takes the oldest. -/
theorem step_of_call {s : State} {c : EnvCall} {rest : List EnvCall} (h : s.pending = c :: rest) :
    step s = runCall c { s with pending := rest } := by
  simp only [step, advance, h]

end Sys2Proof.Machine
end

