-- ==== Sys2Proof/Tests/Slice0.lean ====
section
/-!
SUPPORT. Tests/Slice0.lean: the model's own tests. Expected values come from 95_test_vectors.md (V-AM, V-OP, V-LD, V-ST,
V-BR, V-UN, V-BUS, V-CART, MAP, T1 to T6) and from the words of 30_encoding R106 and R107; each names its row. The
last part holds a concrete witness for the hypotheses of each obligation.
-/

namespace Sys2Proof.Tests

open Sys2Proof.Machine

/-! ## Well-formedness: an ill-formed term for each check -/

/-- No opcode byte (R100). -/
theorem test_empty_bytes_refused : wellFormedBytes [] = false := by decide

/-- `LDA #` without its operand byte (R100, R105). -/
theorem test_truncated_refused : wellFormedBytes [0xA9#8] = false := by decide

/-- An unimplemented opcode is one byte long, whatever the byte means on a real 6502 (R107, R231). -/
theorem test_unimplemented_with_operand_refused : wellFormedBytes [0x4C#8, 0x34#8, 0x12#8] = false := by decide

/-- `STA $4014` is three bytes (R105). -/
theorem test_whole_instruction_accepted : wellFormedBytes [0x8D#8, 0x14#8, 0x40#8] = true := by decide

/-- The decoder rejects by name what ends too early. -/
theorem test_decode_rejects : decode [] = .error .noBytes ∧ decode [0xAD#8, 0x34#8] = .error (.truncated 0xAD#8) :=
  ⟨rfl, rfl⟩

/-- Cells out of order, listed twice, out of range, or listed although unlistable are no canonical form. -/
theorem test_noncanonical_refused :
    cellsWf .ram ramSize [(2, 0x01#8), (1, 0x01#8)] = false ∧ cellsWf .ram ramSize [(1, 0x01#8), (1, 0x02#8)] = false ∧
    cellsWf .ram ramSize [(0x800, 0x01#8)] = false ∧ cellsWf .rom 16 [(3, 0x00#8)] = false := by decide

/-- The last RAM cell, and a zero written to RAM, are listed. -/
theorem test_canonical_accepted : cellsWf .ram ramSize [(0, 0x00#8), (0x7FF, 0x01#8)] = true := by decide

/-! ## Decoding: one word for each constructor, written from R106 and R107 -/

/-- LDA: every opcode byte of R106 with its operand bytes, low byte first (R102). -/
theorem test_decode_lda :
    decode [0xA9#8, 0xA9#8] = .ok (.ldaImm 0xA9#8, []) ∧
    decode [0xA5#8, 0xA5#8] = .ok (.ldaZp0 0xA5#8, []) ∧
    decode [0xB5#8, 0xB5#8] = .ok (.ldaZpx 0xB5#8, []) ∧
    decode [0xAD#8, 0x34#8, 0x14#8] = .ok (.ldaAbs 0x1434#16, []) ∧
    decode [0xBD#8, 0x34#8, 0x12#8] = .ok (.ldaAbx 0x1234#16, []) ∧
    decode [0xB9#8, 0x34#8, 0x14#8] = .ok (.ldaAby 0x1434#16, []) ∧
    decode [0xA1#8, 0xA1#8] = .ok (.ldaIzx 0xA1#8, []) ∧
    decode [0xB1#8, 0xB1#8] = .ok (.ldaIzy 0xB1#8, []) :=
  ⟨rfl, rfl, rfl, rfl, rfl, rfl, rfl, rfl⟩

/-- LDX: every opcode byte of R106 with its operand bytes, low byte first (R102). -/
theorem test_decode_ldx :
    decode [0xA2#8, 0xA2#8] = .ok (.ldxImm 0xA2#8, []) ∧
    decode [0xA6#8, 0xA6#8] = .ok (.ldxZp0 0xA6#8, []) ∧
    decode [0xB6#8, 0xB6#8] = .ok (.ldxZpy 0xB6#8, []) ∧
    decode [0xAE#8, 0x34#8, 0x12#8] = .ok (.ldxAbs 0x1234#16, []) ∧
    decode [0xBE#8, 0x34#8, 0x13#8] = .ok (.ldxAby 0x1334#16, []) :=
  ⟨rfl, rfl, rfl, rfl, rfl⟩

/-- LDY: every opcode byte of R106 with its operand bytes, low byte first (R102). -/
theorem test_decode_ldy :
    decode [0xA0#8, 0xA0#8] = .ok (.ldyImm 0xA0#8, []) ∧
    decode [0xA4#8, 0xA4#8] = .ok (.ldyZp0 0xA4#8, []) ∧
    decode [0xB4#8, 0xB4#8] = .ok (.ldyZpx 0xB4#8, []) ∧
    decode [0xAC#8, 0x34#8, 0x13#8] = .ok (.ldyAbs 0x1334#16, []) ∧
    decode [0xBC#8, 0x34#8, 0x14#8] = .ok (.ldyAbx 0x1434#16, []) :=
  ⟨rfl, rfl, rfl, rfl, rfl⟩

/-- STA: every opcode byte of R106 with its operand bytes, low byte first (R102). -/
theorem test_decode_sta :
    decode [0x85#8, 0x85#8] = .ok (.staZp0 0x85#8, []) ∧
    decode [0x95#8, 0x95#8] = .ok (.staZpx 0x95#8, []) ∧
    decode [0x8D#8, 0x34#8, 0x12#8] = .ok (.staAbs 0x1234#16, []) ∧
    decode [0x9D#8, 0x34#8, 0x13#8] = .ok (.staAbx 0x1334#16, []) ∧
    decode [0x99#8, 0x34#8, 0x12#8] = .ok (.staAby 0x1234#16, []) ∧
    decode [0x81#8, 0x81#8] = .ok (.staIzx 0x81#8, []) ∧
    decode [0x91#8, 0x91#8] = .ok (.staIzy 0x91#8, []) :=
  ⟨rfl, rfl, rfl, rfl, rfl, rfl, rfl⟩

/-- STX: every opcode byte of R106 with its operand bytes, low byte first (R102). -/
theorem test_decode_stx :
    decode [0x86#8, 0x86#8] = .ok (.stxZp0 0x86#8, []) ∧
    decode [0x96#8, 0x96#8] = .ok (.stxZpy 0x96#8, []) ∧
    decode [0x8E#8, 0x34#8, 0x13#8] = .ok (.stxAbs 0x1334#16, []) :=
  ⟨rfl, rfl, rfl⟩

/-- STY: every opcode byte of R106 with its operand bytes, low byte first (R102). -/
theorem test_decode_sty :
    decode [0x84#8, 0x84#8] = .ok (.styZp0 0x84#8, []) ∧
    decode [0x94#8, 0x94#8] = .ok (.styZpx 0x94#8, []) ∧
    decode [0x8C#8, 0x34#8, 0x14#8] = .ok (.styAbs 0x1434#16, []) :=
  ⟨rfl, rfl, rfl⟩

/-- The four branches (R106). -/
theorem test_decode_branches :
    decode [0x90#8, 0x90#8] = .ok (.bcc 0x90#8, []) ∧
    decode [0xB0#8, 0xB0#8] = .ok (.bcs 0xB0#8, []) ∧
    decode [0xD0#8, 0x90#8] = .ok (.bne 0x90#8, []) ∧
    decode [0xF0#8, 0xB0#8] = .ok (.beq 0xB0#8, []) :=
  ⟨rfl, rfl, rfl, rfl⟩

/-- Opcode bytes 0x00 to 0x0F that have no descriptor (R107). -/
theorem test_decode_unimp_0 :
    decode [0x00#8] = .ok (.unimp00, []) ∧
    decode [0x01#8] = .ok (.unimp01, []) ∧
    decode [0x02#8] = .ok (.unimp02, []) ∧
    decode [0x03#8] = .ok (.unimp03, []) ∧
    decode [0x04#8] = .ok (.unimp04, []) ∧
    decode [0x05#8] = .ok (.unimp05, []) ∧
    decode [0x06#8] = .ok (.unimp06, []) ∧
    decode [0x07#8] = .ok (.unimp07, []) ∧
    decode [0x08#8] = .ok (.unimp08, []) ∧
    decode [0x09#8] = .ok (.unimp09, []) ∧
    decode [0x0A#8] = .ok (.unimp0A, []) ∧
    decode [0x0B#8] = .ok (.unimp0B, []) ∧
    decode [0x0C#8] = .ok (.unimp0C, []) ∧
    decode [0x0D#8] = .ok (.unimp0D, []) ∧
    decode [0x0E#8] = .ok (.unimp0E, []) ∧
    decode [0x0F#8] = .ok (.unimp0F, []) :=
  ⟨rfl, rfl, rfl, rfl, rfl, rfl, rfl, rfl, rfl, rfl, rfl, rfl, rfl, rfl, rfl, rfl⟩

/-- Opcode bytes 0x10 to 0x1F that have no descriptor (R107). -/
theorem test_decode_unimp_1 :
    decode [0x10#8] = .ok (.unimp10, []) ∧
    decode [0x11#8] = .ok (.unimp11, []) ∧
    decode [0x12#8] = .ok (.unimp12, []) ∧
    decode [0x13#8] = .ok (.unimp13, []) ∧
    decode [0x14#8] = .ok (.unimp14, []) ∧
    decode [0x15#8] = .ok (.unimp15, []) ∧
    decode [0x16#8] = .ok (.unimp16, []) ∧
    decode [0x17#8] = .ok (.unimp17, []) ∧
    decode [0x18#8] = .ok (.unimp18, []) ∧
    decode [0x19#8] = .ok (.unimp19, []) ∧
    decode [0x1A#8] = .ok (.unimp1A, []) ∧
    decode [0x1B#8] = .ok (.unimp1B, []) ∧
    decode [0x1C#8] = .ok (.unimp1C, []) ∧
    decode [0x1D#8] = .ok (.unimp1D, []) ∧
    decode [0x1E#8] = .ok (.unimp1E, []) ∧
    decode [0x1F#8] = .ok (.unimp1F, []) :=
  ⟨rfl, rfl, rfl, rfl, rfl, rfl, rfl, rfl, rfl, rfl, rfl, rfl, rfl, rfl, rfl, rfl⟩

/-- Opcode bytes 0x20 to 0x2F that have no descriptor (R107). -/
theorem test_decode_unimp_2 :
    decode [0x20#8] = .ok (.unimp20, []) ∧
    decode [0x21#8] = .ok (.unimp21, []) ∧
    decode [0x22#8] = .ok (.unimp22, []) ∧
    decode [0x23#8] = .ok (.unimp23, []) ∧
    decode [0x24#8] = .ok (.unimp24, []) ∧
    decode [0x25#8] = .ok (.unimp25, []) ∧
    decode [0x26#8] = .ok (.unimp26, []) ∧
    decode [0x27#8] = .ok (.unimp27, []) ∧
    decode [0x28#8] = .ok (.unimp28, []) ∧
    decode [0x29#8] = .ok (.unimp29, []) ∧
    decode [0x2A#8] = .ok (.unimp2A, []) ∧
    decode [0x2B#8] = .ok (.unimp2B, []) ∧
    decode [0x2C#8] = .ok (.unimp2C, []) ∧
    decode [0x2D#8] = .ok (.unimp2D, []) ∧
    decode [0x2E#8] = .ok (.unimp2E, []) ∧
    decode [0x2F#8] = .ok (.unimp2F, []) :=
  ⟨rfl, rfl, rfl, rfl, rfl, rfl, rfl, rfl, rfl, rfl, rfl, rfl, rfl, rfl, rfl, rfl⟩

/-- Opcode bytes 0x30 to 0x3F that have no descriptor (R107). -/
theorem test_decode_unimp_3 :
    decode [0x30#8] = .ok (.unimp30, []) ∧
    decode [0x31#8] = .ok (.unimp31, []) ∧
    decode [0x32#8] = .ok (.unimp32, []) ∧
    decode [0x33#8] = .ok (.unimp33, []) ∧
    decode [0x34#8] = .ok (.unimp34, []) ∧
    decode [0x35#8] = .ok (.unimp35, []) ∧
    decode [0x36#8] = .ok (.unimp36, []) ∧
    decode [0x37#8] = .ok (.unimp37, []) ∧
    decode [0x38#8] = .ok (.unimp38, []) ∧
    decode [0x39#8] = .ok (.unimp39, []) ∧
    decode [0x3A#8] = .ok (.unimp3A, []) ∧
    decode [0x3B#8] = .ok (.unimp3B, []) ∧
    decode [0x3C#8] = .ok (.unimp3C, []) ∧
    decode [0x3D#8] = .ok (.unimp3D, []) ∧
    decode [0x3E#8] = .ok (.unimp3E, []) ∧
    decode [0x3F#8] = .ok (.unimp3F, []) :=
  ⟨rfl, rfl, rfl, rfl, rfl, rfl, rfl, rfl, rfl, rfl, rfl, rfl, rfl, rfl, rfl, rfl⟩

/-- Opcode bytes 0x40 to 0x4F that have no descriptor (R107). -/
theorem test_decode_unimp_4 :
    decode [0x40#8] = .ok (.unimp40, []) ∧
    decode [0x41#8] = .ok (.unimp41, []) ∧
    decode [0x42#8] = .ok (.unimp42, []) ∧
    decode [0x43#8] = .ok (.unimp43, []) ∧
    decode [0x44#8] = .ok (.unimp44, []) ∧
    decode [0x45#8] = .ok (.unimp45, []) ∧
    decode [0x46#8] = .ok (.unimp46, []) ∧
    decode [0x47#8] = .ok (.unimp47, []) ∧
    decode [0x48#8] = .ok (.unimp48, []) ∧
    decode [0x49#8] = .ok (.unimp49, []) ∧
    decode [0x4A#8] = .ok (.unimp4A, []) ∧
    decode [0x4B#8] = .ok (.unimp4B, []) ∧
    decode [0x4C#8] = .ok (.unimp4C, []) ∧
    decode [0x4D#8] = .ok (.unimp4D, []) ∧
    decode [0x4E#8] = .ok (.unimp4E, []) ∧
    decode [0x4F#8] = .ok (.unimp4F, []) :=
  ⟨rfl, rfl, rfl, rfl, rfl, rfl, rfl, rfl, rfl, rfl, rfl, rfl, rfl, rfl, rfl, rfl⟩

/-- Opcode bytes 0x50 to 0x5F that have no descriptor (R107). -/
theorem test_decode_unimp_5 :
    decode [0x50#8] = .ok (.unimp50, []) ∧
    decode [0x51#8] = .ok (.unimp51, []) ∧
    decode [0x52#8] = .ok (.unimp52, []) ∧
    decode [0x53#8] = .ok (.unimp53, []) ∧
    decode [0x54#8] = .ok (.unimp54, []) ∧
    decode [0x55#8] = .ok (.unimp55, []) ∧
    decode [0x56#8] = .ok (.unimp56, []) ∧
    decode [0x57#8] = .ok (.unimp57, []) ∧
    decode [0x58#8] = .ok (.unimp58, []) ∧
    decode [0x59#8] = .ok (.unimp59, []) ∧
    decode [0x5A#8] = .ok (.unimp5A, []) ∧
    decode [0x5B#8] = .ok (.unimp5B, []) ∧
    decode [0x5C#8] = .ok (.unimp5C, []) ∧
    decode [0x5D#8] = .ok (.unimp5D, []) ∧
    decode [0x5E#8] = .ok (.unimp5E, []) ∧
    decode [0x5F#8] = .ok (.unimp5F, []) :=
  ⟨rfl, rfl, rfl, rfl, rfl, rfl, rfl, rfl, rfl, rfl, rfl, rfl, rfl, rfl, rfl, rfl⟩

/-- Opcode bytes 0x60 to 0x6F that have no descriptor (R107). -/
theorem test_decode_unimp_6 :
    decode [0x60#8] = .ok (.unimp60, []) ∧
    decode [0x61#8] = .ok (.unimp61, []) ∧
    decode [0x62#8] = .ok (.unimp62, []) ∧
    decode [0x63#8] = .ok (.unimp63, []) ∧
    decode [0x64#8] = .ok (.unimp64, []) ∧
    decode [0x65#8] = .ok (.unimp65, []) ∧
    decode [0x66#8] = .ok (.unimp66, []) ∧
    decode [0x67#8] = .ok (.unimp67, []) ∧
    decode [0x68#8] = .ok (.unimp68, []) ∧
    decode [0x69#8] = .ok (.unimp69, []) ∧
    decode [0x6A#8] = .ok (.unimp6A, []) ∧
    decode [0x6B#8] = .ok (.unimp6B, []) ∧
    decode [0x6C#8] = .ok (.unimp6C, []) ∧
    decode [0x6D#8] = .ok (.unimp6D, []) ∧
    decode [0x6E#8] = .ok (.unimp6E, []) ∧
    decode [0x6F#8] = .ok (.unimp6F, []) :=
  ⟨rfl, rfl, rfl, rfl, rfl, rfl, rfl, rfl, rfl, rfl, rfl, rfl, rfl, rfl, rfl, rfl⟩

/-- Opcode bytes 0x70 to 0x7F that have no descriptor (R107). -/
theorem test_decode_unimp_7 :
    decode [0x70#8] = .ok (.unimp70, []) ∧
    decode [0x71#8] = .ok (.unimp71, []) ∧
    decode [0x72#8] = .ok (.unimp72, []) ∧
    decode [0x73#8] = .ok (.unimp73, []) ∧
    decode [0x74#8] = .ok (.unimp74, []) ∧
    decode [0x75#8] = .ok (.unimp75, []) ∧
    decode [0x76#8] = .ok (.unimp76, []) ∧
    decode [0x77#8] = .ok (.unimp77, []) ∧
    decode [0x78#8] = .ok (.unimp78, []) ∧
    decode [0x79#8] = .ok (.unimp79, []) ∧
    decode [0x7A#8] = .ok (.unimp7A, []) ∧
    decode [0x7B#8] = .ok (.unimp7B, []) ∧
    decode [0x7C#8] = .ok (.unimp7C, []) ∧
    decode [0x7D#8] = .ok (.unimp7D, []) ∧
    decode [0x7E#8] = .ok (.unimp7E, []) ∧
    decode [0x7F#8] = .ok (.unimp7F, []) :=
  ⟨rfl, rfl, rfl, rfl, rfl, rfl, rfl, rfl, rfl, rfl, rfl, rfl, rfl, rfl, rfl, rfl⟩

/-- Opcode bytes 0x80 to 0x8F that have no descriptor (R107). -/
theorem test_decode_unimp_8 :
    decode [0x80#8] = .ok (.unimp80, []) ∧
    decode [0x82#8] = .ok (.unimp82, []) ∧
    decode [0x83#8] = .ok (.unimp83, []) ∧
    decode [0x87#8] = .ok (.unimp87, []) ∧
    decode [0x88#8] = .ok (.unimp88, []) ∧
    decode [0x89#8] = .ok (.unimp89, []) ∧
    decode [0x8A#8] = .ok (.unimp8A, []) ∧
    decode [0x8B#8] = .ok (.unimp8B, []) ∧
    decode [0x8F#8] = .ok (.unimp8F, []) :=
  ⟨rfl, rfl, rfl, rfl, rfl, rfl, rfl, rfl, rfl⟩

/-- Opcode bytes 0x90 to 0x9F that have no descriptor (R107). -/
theorem test_decode_unimp_9 :
    decode [0x92#8] = .ok (.unimp92, []) ∧
    decode [0x93#8] = .ok (.unimp93, []) ∧
    decode [0x97#8] = .ok (.unimp97, []) ∧
    decode [0x98#8] = .ok (.unimp98, []) ∧
    decode [0x9A#8] = .ok (.unimp9A, []) ∧
    decode [0x9B#8] = .ok (.unimp9B, []) ∧
    decode [0x9C#8] = .ok (.unimp9C, []) ∧
    decode [0x9E#8] = .ok (.unimp9E, []) ∧
    decode [0x9F#8] = .ok (.unimp9F, []) :=
  ⟨rfl, rfl, rfl, rfl, rfl, rfl, rfl, rfl, rfl⟩

/-- Opcode bytes 0xA0 to 0xAF that have no descriptor (R107). -/
theorem test_decode_unimp_A :
    decode [0xA3#8] = .ok (.unimpA3, []) ∧
    decode [0xA7#8] = .ok (.unimpA7, []) ∧
    decode [0xA8#8] = .ok (.unimpA8, []) ∧
    decode [0xAA#8] = .ok (.unimpAA, []) ∧
    decode [0xAB#8] = .ok (.unimpAB, []) ∧
    decode [0xAF#8] = .ok (.unimpAF, []) :=
  ⟨rfl, rfl, rfl, rfl, rfl, rfl⟩

/-- Opcode bytes 0xB0 to 0xBF that have no descriptor (R107). -/
theorem test_decode_unimp_B :
    decode [0xB2#8] = .ok (.unimpB2, []) ∧
    decode [0xB3#8] = .ok (.unimpB3, []) ∧
    decode [0xB7#8] = .ok (.unimpB7, []) ∧
    decode [0xB8#8] = .ok (.unimpB8, []) ∧
    decode [0xBA#8] = .ok (.unimpBA, []) ∧
    decode [0xBB#8] = .ok (.unimpBB, []) ∧
    decode [0xBF#8] = .ok (.unimpBF, []) :=
  ⟨rfl, rfl, rfl, rfl, rfl, rfl, rfl⟩

/-- Opcode bytes 0xC0 to 0xCF that have no descriptor (R107). -/
theorem test_decode_unimp_C :
    decode [0xC0#8] = .ok (.unimpC0, []) ∧
    decode [0xC1#8] = .ok (.unimpC1, []) ∧
    decode [0xC2#8] = .ok (.unimpC2, []) ∧
    decode [0xC3#8] = .ok (.unimpC3, []) ∧
    decode [0xC4#8] = .ok (.unimpC4, []) ∧
    decode [0xC5#8] = .ok (.unimpC5, []) ∧
    decode [0xC6#8] = .ok (.unimpC6, []) ∧
    decode [0xC7#8] = .ok (.unimpC7, []) ∧
    decode [0xC8#8] = .ok (.unimpC8, []) ∧
    decode [0xC9#8] = .ok (.unimpC9, []) ∧
    decode [0xCA#8] = .ok (.unimpCA, []) ∧
    decode [0xCB#8] = .ok (.unimpCB, []) ∧
    decode [0xCC#8] = .ok (.unimpCC, []) ∧
    decode [0xCD#8] = .ok (.unimpCD, []) ∧
    decode [0xCE#8] = .ok (.unimpCE, []) ∧
    decode [0xCF#8] = .ok (.unimpCF, []) :=
  ⟨rfl, rfl, rfl, rfl, rfl, rfl, rfl, rfl, rfl, rfl, rfl, rfl, rfl, rfl, rfl, rfl⟩

/-- Opcode bytes 0xD0 to 0xDF that have no descriptor (R107). -/
theorem test_decode_unimp_D :
    decode [0xD1#8] = .ok (.unimpD1, []) ∧
    decode [0xD2#8] = .ok (.unimpD2, []) ∧
    decode [0xD3#8] = .ok (.unimpD3, []) ∧
    decode [0xD4#8] = .ok (.unimpD4, []) ∧
    decode [0xD5#8] = .ok (.unimpD5, []) ∧
    decode [0xD6#8] = .ok (.unimpD6, []) ∧
    decode [0xD7#8] = .ok (.unimpD7, []) ∧
    decode [0xD8#8] = .ok (.unimpD8, []) ∧
    decode [0xD9#8] = .ok (.unimpD9, []) ∧
    decode [0xDA#8] = .ok (.unimpDA, []) ∧
    decode [0xDB#8] = .ok (.unimpDB, []) ∧
    decode [0xDC#8] = .ok (.unimpDC, []) ∧
    decode [0xDD#8] = .ok (.unimpDD, []) ∧
    decode [0xDE#8] = .ok (.unimpDE, []) ∧
    decode [0xDF#8] = .ok (.unimpDF, []) :=
  ⟨rfl, rfl, rfl, rfl, rfl, rfl, rfl, rfl, rfl, rfl, rfl, rfl, rfl, rfl, rfl⟩

/-- Opcode bytes 0xE0 to 0xEF that have no descriptor (R107). -/
theorem test_decode_unimp_E :
    decode [0xE0#8] = .ok (.unimpE0, []) ∧
    decode [0xE1#8] = .ok (.unimpE1, []) ∧
    decode [0xE2#8] = .ok (.unimpE2, []) ∧
    decode [0xE3#8] = .ok (.unimpE3, []) ∧
    decode [0xE4#8] = .ok (.unimpE4, []) ∧
    decode [0xE5#8] = .ok (.unimpE5, []) ∧
    decode [0xE6#8] = .ok (.unimpE6, []) ∧
    decode [0xE7#8] = .ok (.unimpE7, []) ∧
    decode [0xE8#8] = .ok (.unimpE8, []) ∧
    decode [0xE9#8] = .ok (.unimpE9, []) ∧
    decode [0xEA#8] = .ok (.unimpEA, []) ∧
    decode [0xEB#8] = .ok (.unimpEB, []) ∧
    decode [0xEC#8] = .ok (.unimpEC, []) ∧
    decode [0xED#8] = .ok (.unimpED, []) ∧
    decode [0xEE#8] = .ok (.unimpEE, []) ∧
    decode [0xEF#8] = .ok (.unimpEF, []) :=
  ⟨rfl, rfl, rfl, rfl, rfl, rfl, rfl, rfl, rfl, rfl, rfl, rfl, rfl, rfl, rfl, rfl⟩

/-- Opcode bytes 0xF0 to 0xFF that have no descriptor (R107). -/
theorem test_decode_unimp_F :
    decode [0xF1#8] = .ok (.unimpF1, []) ∧
    decode [0xF2#8] = .ok (.unimpF2, []) ∧
    decode [0xF3#8] = .ok (.unimpF3, []) ∧
    decode [0xF4#8] = .ok (.unimpF4, []) ∧
    decode [0xF5#8] = .ok (.unimpF5, []) ∧
    decode [0xF6#8] = .ok (.unimpF6, []) ∧
    decode [0xF7#8] = .ok (.unimpF7, []) ∧
    decode [0xF8#8] = .ok (.unimpF8, []) ∧
    decode [0xF9#8] = .ok (.unimpF9, []) ∧
    decode [0xFA#8] = .ok (.unimpFA, []) ∧
    decode [0xFB#8] = .ok (.unimpFB, []) ∧
    decode [0xFC#8] = .ok (.unimpFC, []) ∧
    decode [0xFD#8] = .ok (.unimpFD, []) ∧
    decode [0xFE#8] = .ok (.unimpFE, []) ∧
    decode [0xFF#8] = .ok (.unimpFF, []) :=
  ⟨rfl, rfl, rfl, rfl, rfl, rfl, rfl, rfl, rfl, rfl, rfl, rfl, rfl, rfl, rfl⟩

/-- The host's numbering: bit 0 is the least significant bit of the first byte, the bits above are 0. -/
theorem test_decode_table_word :
    decodeTableWord 24 0x1234AD = some (.ldaAbs 0x1234#16) ∧ decodeTableWord 8 0xAD = some (.ldaAbs 0x0000#16) ∧
    decodeTableWord 16 0x80A9 = some (.ldaImm 0x80#8) ∧ decodeTableWord 8 0xFF = some .unimpFF ∧
    decodeTableWord 12 0xFF = none := by decide

/-! ## One CPU tick: V-OP, V-ST, V-BR, V-UN -/

/-- A one-bank cartridge with the given PRG cells (R48). -/
def cart1 (prg : Cells) : Cartridge := ⟨0x01#8, 0x00#8, 0x00#8, .horizontal, .fixedBank, prg, []⟩

/-- The start state of V-OP: code at 0x8000, A = 0xEE, X = 0x04, Y = 0x05, P = 0x20, the RAM cells that matter. -/
def opState (code ram : Cells) : State :=
  { State.reset with a := 0xEE#8, x := 0x04#8, y := 0x05#8, pc := 0x8000#16, cycles := 0#8,
                     cart := some (cart1 code), ram := ram }

/-- Does the state after one CPU tick have the property? -/
def after (s : State) (f : State → Bool) : Bool :=
  match cpuTick s with
  | .next t => f t
  | .fault _ => false
  | .refused _ => false

/-- OP1: `LDA #$00` (R172). -/
theorem test_op1_ldaImm : after (opState [(0x0, 0xA9#8)] []) (fun t =>
    t.a == 0x00#8 && t.p == 0x22#8 && t.pc == 0x8002#16 && t.cycles == 2#8) = true := by decide

/-- OP2: `LDA $40` (R173). -/
theorem test_op2_ldaZp0 : after (opState [(0x0, 0xA5#8), (0x1, 0x40#8)] [(0x40, 0xC3#8)]) (fun t =>
    t.a == 0xC3#8 && t.p == 0xA0#8 && t.pc == 0x8002#16 && t.cycles == 3#8) = true := by decide

/-- OP3: `LDA $FE,X` (R174). -/
theorem test_op3_ldaZpx : after (opState [(0x0, 0xB5#8), (0x1, 0xFE#8)] [(0x2, 0x11#8)]) (fun t =>
    t.a == 0x11#8 && t.p == 0x20#8 && t.pc == 0x8002#16 && t.cycles == 4#8) = true := by decide

/-- OP4: `LDA $0234` (R175). -/
theorem test_op4_ldaAbs : after (opState [(0x0, 0xAD#8), (0x1, 0x34#8), (0x2, 0x02#8)] [(0x234, 0x6F#8)]) (fun t =>
    t.a == 0x6F#8 && t.p == 0x20#8 && t.pc == 0x8003#16 && t.cycles == 4#8) = true := by decide

/-- OP5: `LDA $02FE,X` (R176). -/
theorem test_op5_ldaAbx : after (opState [(0x0, 0xBD#8), (0x1, 0xFE#8), (0x2, 0x02#8)] [(0x302, 0x11#8)]) (fun t =>
    t.a == 0x11#8 && t.p == 0x20#8 && t.pc == 0x8003#16 && t.cycles == 5#8) = true := by decide

/-- OP6: `LDA $0310,Y` (R177). -/
theorem test_op6_ldaAby : after (opState [(0x0, 0xB9#8), (0x1, 0x10#8), (0x2, 0x03#8)] [(0x315, 0x96#8)]) (fun t =>
    t.a == 0x96#8 && t.p == 0xA0#8 && t.pc == 0x8003#16 && t.cycles == 4#8) = true := by decide

/-- OP7: `LDA ($20,X)` (R178). -/
theorem test_op7_ldaIzx : after (opState [(0x0, 0xA1#8), (0x1, 0x20#8)] [(0x24, 0x00#8), (0x25, 0x03#8), (0x300, 0x03#8)]) (fun t =>
    t.a == 0x03#8 && t.p == 0x20#8 && t.pc == 0x8002#16 && t.cycles == 6#8) = true := by decide

/-- OP8: `LDA ($30),Y` (R179). -/
theorem test_op8_ldaIzy : after (opState [(0x0, 0xB1#8), (0x1, 0x30#8)] [(0x30, 0xFE#8), (0x31, 0x02#8), (0x303, 0x18#8)]) (fun t =>
    t.a == 0x18#8 && t.p == 0x20#8 && t.pc == 0x8002#16 && t.cycles == 6#8) = true := by decide

/-- OP9: `LDX #$80` (R181). -/
theorem test_op9_ldxImm : after (opState [(0x0, 0xA2#8), (0x1, 0x80#8)] []) (fun t =>
    t.x == 0x80#8 && t.p == 0xA0#8 && t.pc == 0x8002#16 && t.cycles == 2#8) = true := by decide

/-- OP10: `LDX $41` (R182). -/
theorem test_op10_ldxZp0 : after (opState [(0x0, 0xA6#8), (0x1, 0x41#8)] [(0x41, 0xCA#8)]) (fun t =>
    t.x == 0xCA#8 && t.p == 0xA0#8 && t.pc == 0x8002#16 && t.cycles == 3#8) = true := by decide

/-- OP11: `LDX $FD,Y` (R183). -/
theorem test_op11_ldxZpy : after (opState [(0x0, 0xB6#8), (0x1, 0xFD#8)] [(0x2, 0x11#8)]) (fun t =>
    t.x == 0x11#8 && t.p == 0x20#8 && t.pc == 0x8002#16 && t.cycles == 4#8) = true := by decide

/-- OP12: `LDX $8000` (R184). -/
theorem test_op12_ldxAbs : after (opState [(0x0, 0xAE#8), (0x2, 0x80#8)] []) (fun t =>
    t.x == 0xAE#8 && t.p == 0xA0#8 && t.pc == 0x8003#16 && t.cycles == 4#8) = true := by decide

/-- OP13: `LDX $06FB,Y` (R185). -/
theorem test_op13_ldxAby : after (opState [(0x0, 0xBE#8), (0x1, 0xFB#8), (0x2, 0x06#8)] [(0x700, 0x03#8)]) (fun t =>
    t.x == 0x03#8 && t.p == 0x20#8 && t.pc == 0x8003#16 && t.cycles == 5#8) = true := by decide

/-- OP14: `LDY #$7F` (R187). -/
theorem test_op14_ldyImm : after (opState [(0x0, 0xA0#8), (0x1, 0x7F#8)] []) (fun t =>
    t.y == 0x7F#8 && t.p == 0x20#8 && t.pc == 0x8002#16 && t.cycles == 2#8) = true := by decide

/-- OP15: `LDY $42` (R188). -/
theorem test_op15_ldyZp0 : after (opState [(0x0, 0xA4#8), (0x1, 0x42#8)] [(0x42, 0xD1#8)]) (fun t =>
    t.y == 0xD1#8 && t.p == 0xA0#8 && t.pc == 0x8002#16 && t.cycles == 3#8) = true := by decide

/-- OP16: `LDY $10,X` (R189). -/
theorem test_op16_ldyZpx : after (opState [(0x0, 0xB4#8), (0x1, 0x10#8)] [(0x14, 0x8F#8)]) (fun t =>
    t.y == 0x8F#8 && t.p == 0xA0#8 && t.pc == 0x8002#16 && t.cycles == 4#8) = true := by decide

/-- OP17: `LDY $07FF` (R190). -/
theorem test_op17_ldyAbs : after (opState [(0x0, 0xAC#8), (0x1, 0xFF#8), (0x2, 0x07#8)] [(0x7ff, 0xFC#8)]) (fun t =>
    t.y == 0xFC#8 && t.p == 0xA0#8 && t.pc == 0x8003#16 && t.cycles == 4#8) = true := by decide

/-- OP18: `LDY $1800,X` (R191). -/
theorem test_op18_ldyAbx : after (opState [(0x0, 0xBC#8), (0x2, 0x18#8)] [(0x4, 0x1F#8)]) (fun t =>
    t.y == 0x1F#8 && t.p == 0x20#8 && t.pc == 0x8003#16 && t.cycles == 4#8) = true := by decide

/-- OP19: `STA $50` (R202). -/
theorem test_op19_staZp0 : after (opState [(0x0, 0x85#8), (0x1, 0x50#8)] []) (fun t =>
    cellsFind 0x050 t.ram == some 0xEE#8 && t.p == 0x20#8 && t.pc == 0x8002#16 && t.cycles == 3#8) = true := by decide

/-- OP20: `STA $FF,X` (R203). -/
theorem test_op20_staZpx : after (opState [(0x0, 0x95#8), (0x1, 0xFF#8)] []) (fun t =>
    cellsFind 0x003 t.ram == some 0xEE#8 && t.p == 0x20#8 && t.pc == 0x8002#16 && t.cycles == 4#8) = true := by decide

/-- OP21: `STA $0600` (R204). -/
theorem test_op21_staAbs : after (opState [(0x0, 0x8D#8), (0x2, 0x06#8)] []) (fun t =>
    cellsFind 0x600 t.ram == some 0xEE#8 && t.p == 0x20#8 && t.pc == 0x8003#16 && t.cycles == 4#8) = true := by decide

/-- OP22: `STA $05FC,X` (R205). -/
theorem test_op22_staAbx : after (opState [(0x0, 0x9D#8), (0x1, 0xFC#8), (0x2, 0x05#8)] []) (fun t =>
    cellsFind 0x600 t.ram == some 0xEE#8 && t.p == 0x20#8 && t.pc == 0x8003#16 && t.cycles == 6#8) = true := by decide

/-- OP23: `STA $0500,Y` (R206). -/
theorem test_op23_staAby : after (opState [(0x0, 0x99#8), (0x2, 0x05#8)] []) (fun t =>
    cellsFind 0x505 t.ram == some 0xEE#8 && t.p == 0x20#8 && t.pc == 0x8003#16 && t.cycles == 5#8) = true := by decide

/-- OP24: `STA ($20,X)` (R207). -/
theorem test_op24_staIzx : after (opState [(0x0, 0x81#8), (0x1, 0x20#8)] [(0x24, 0x00#8), (0x25, 0x03#8)]) (fun t =>
    cellsFind 0x300 t.ram == some 0xEE#8 && t.p == 0x20#8 && t.pc == 0x8002#16 && t.cycles == 6#8) = true := by decide

/-- OP25: `STA ($30),Y` (R208). -/
theorem test_op25_staIzy : after (opState [(0x0, 0x91#8), (0x1, 0x30#8)] [(0x30, 0xFE#8), (0x31, 0x02#8)]) (fun t =>
    cellsFind 0x303 t.ram == some 0xEE#8 && t.p == 0x20#8 && t.pc == 0x8002#16 && t.cycles == 7#8) = true := by decide

/-- OP26: `STX $51` (R210). -/
theorem test_op26_stxZp0 : after (opState [(0x0, 0x86#8), (0x1, 0x51#8)] []) (fun t =>
    cellsFind 0x051 t.ram == some 0x04#8 && t.p == 0x20#8 && t.pc == 0x8002#16 && t.cycles == 3#8) = true := by decide

/-- OP27: `STX $FB,Y` (R211). -/
theorem test_op27_stxZpy : after (opState [(0x0, 0x96#8), (0x1, 0xFB#8)] []) (fun t =>
    cellsFind 0x000 t.ram == some 0x04#8 && t.p == 0x20#8 && t.pc == 0x8002#16 && t.cycles == 4#8) = true := by decide

/-- OP28: `STX $8000` (R212). -/
theorem test_op28_stxAbs : after (opState [(0x0, 0x8E#8), (0x2, 0x80#8)] []) (fun t =>
    t.ram == [] && t.picture == State.reset.picture && t.sound == State.reset.sound && t.p == 0x20#8 && t.pc == 0x8003#16 && t.cycles == 4#8) = true := by decide

/-- OP29: `STY $52` (R214). -/
theorem test_op29_styZp0 : after (opState [(0x0, 0x84#8), (0x1, 0x52#8)] []) (fun t =>
    cellsFind 0x052 t.ram == some 0x05#8 && t.p == 0x20#8 && t.pc == 0x8002#16 && t.cycles == 3#8) = true := by decide

/-- OP30: `STY $60,X` (R215). -/
theorem test_op30_styZpx : after (opState [(0x0, 0x94#8), (0x1, 0x60#8)] []) (fun t =>
    cellsFind 0x064 t.ram == some 0x05#8 && t.p == 0x20#8 && t.pc == 0x8002#16 && t.cycles == 4#8) = true := by decide

/-- OP31: `STY $2014` (R216). -/
theorem test_op31_styAbs : after (opState [(0x0, 0x8C#8), (0x1, 0x14#8), (0x2, 0x20#8)] []) (fun t =>
    t.picture.calls == [(0, .writeRegister 4#3 0x05#8), (0, .reset)] && !t.dmaActive && t.p == 0x20#8 && t.pc == 0x8003#16 && t.cycles == 4#8) = true := by decide

/-- OP32: `BCC *+18` (R221). -/
theorem test_op32_bcc : after (opState [(0x0, 0x90#8), (0x1, 0x10#8)] []) (fun t =>
    t.branchTaken == true && t.p == 0x20#8 && t.pc == 0x8012#16 && t.cycles == 3#8) = true := by decide

/-- OP33: `BCS *+18` (R222). -/
theorem test_op33_bcs : after (opState [(0x0, 0xB0#8), (0x1, 0x10#8)] []) (fun t =>
    t.branchTaken == false && t.p == 0x20#8 && t.pc == 0x8002#16 && t.cycles == 2#8) = true := by decide

/-- OP34: `BNE *-4` (R223). -/
theorem test_op34_bne : after (opState [(0x0, 0xD0#8), (0x1, 0xFA#8)] []) (fun t =>
    t.branchTaken == true && t.p == 0x20#8 && t.pc == 0x7FFC#16 && t.cycles == 4#8) = true := by decide

/-- OP35: `BEQ *-4` (R224). -/
theorem test_op35_beq : after (opState [(0x0, 0xF0#8), (0x1, 0xFA#8)] []) (fun t =>
    t.branchTaken == false && t.p == 0x20#8 && t.pc == 0x8002#16 && t.cycles == 2#8) = true := by decide

/-- ST2: `STA $1FFF` stores to the last RAM cell and keeps P. -/
theorem test_st2_sta_mirror : after { opState [(0, 0x8D#8), (1, 0xFF#8), (2, 0x1F#8)] [] with a := 0x80#8, p := 0x22#8 }
    (fun t => t.ram == [(0x7FF, 0x80#8)] && t.p == 0x22#8 && t.cycles == 4#8) = true := by decide

/-- ST6: `STY $4014` arms a transfer from page 0x03. -/
theorem test_st6_sty_trigger : after { opState [(0, 0x8C#8), (1, 0x14#8), (2, 0x40#8)] [] with y := 0x03#8 }
    (fun t => t.dmaPage == 0x03#8 && t.dmaActive && t.dmaPhase == .read && t.dmaCursor == 0x00#8) = true := by decide

/-- ST8: the store of OP22's form that does not cross costs 5 (D10). -/
theorem test_st8_sta_abx_uncrossed : after
    { opState [(0, 0x9D#8), (1, 0x01#8), (2, 0x02#8)] [] with a := 0x99#8, x := 0xFE#8 }
    (fun t => t.ram == [(0x2FF, 0x99#8)] && t.cycles == 5#8) = true := by decide

/-- LD2, LD11: `LDA #` with P = 0xFF writes Z and N only (R170). -/
theorem test_ld_flags_kept :
    after { opState [(0, 0xA9#8)] [] with p := 0xFF#8 } (fun t => t.p == 0x7F#8) = true ∧
    after { opState [(0, 0xA2#8), (1, 0x80#8)] [] with p := 0xFF#8 } (fun t => t.p == 0xFD#8) = true ∧
    after { opState [(0, 0xA0#8), (1, 0x7F#8)] [] with p := 0x7D#8 } (fun t => t.p == 0x7D#8) = true := by decide

/-- BR20, BR17: the old page is the page of the next instruction (D11). -/
theorem test_br_cross_page :
    after { opState [(0xFE, 0x90#8), (0xFF, 0xFE#8)] [] with pc := 0x80FE#16 }
      (fun t => t.pc == 0x80FE#16 && t.cycles == 4#8) = true ∧
    after { opState [(0xFE, 0x90#8)] [] with pc := 0x80FE#16 }
      (fun t => t.pc == 0x8100#16 && t.cycles == 3#8) = true := by decide

/-- BR22: the target wraps at the top of the address space; BEQ is taken with Z = 1. -/
theorem test_br22_beq_wraps : after
    { opState [(0x3FF0, 0xF0#8), (0x3FF1, 0x20#8)] [] with pc := 0xFFF0#16, p := 0x22#8 }
    (fun t => t.pc == 0x0012#16 && t.cycles == 4#8 && t.pageCrossed) = true := by decide

/-- BR3: BCS is taken with C = 1. -/
theorem test_br3_bcs : after { opState [(0, 0xB0#8), (1, 0x10#8)] [] with p := 0x21#8 }
    (fun t => t.pc == 0x8012#16 && t.cycles == 3#8) = true := by decide

/-- BR6: BNE is not taken with Z = 1. -/
theorem test_br6_bne : after { opState [(0, 0xD0#8), (1, 0x10#8)] [] with p := 0x22#8 }
    (fun t => t.pc == 0x8002#16 && t.cycles == 2#8) = true := by decide

/-- UN1, UN4, UN15: BRK, JSR and NOP bytes are one byte long and do nothing (R230). -/
theorem test_unimplemented_does_nothing :
    after (opState [] []) (fun t => t == { opState [] [] with pc := 0x8001#16, cycles := 1#8, totalClocks := 1 }) = true ∧
    after (opState [(0, 0x20#8)] []) (fun t => t.pc == 0x8001#16 && t.opcode == 0x20#8 && t.sp == 0xFD#8) = true ∧
    after (opState [(0, 0xEA#8)] []) (fun t => t.pc == 0x8001#16 && t.cycles == 1#8) = true := by decide

/-- A count-down tick (R136). -/
theorem test_count_down : after { opState [] [] with cycles := 3#8 }
    (fun t => t == { opState [] [] with cycles := 2#8, totalClocks := 1 }) = true := by decide

/-! ## The resolver alone: V-AM -/

/-- Operand bytes at 0x0400 and PC there (V-AM). -/
def amState (x y : Byte) (ram : Cells) : State := { State.reset with pc := 0x0400#16, x := x, y := y, ram := ram }

/-- AM25 and T3: the page-wrap quirk of IND. -/
theorem test_am25_ind_quirk :
    (resolveAt .ind (amState 0x00#8 0x00#8
      [(0x200, 0x56#8), (0x2FF, 0x34#8), (0x300, 0x99#8), (0x400, 0xFF#8), (0x401, 0x02#8)])).addr = 0x5634#16 := by
  decide

/-- AM28: the pointer's high byte comes from 0x0000. -/
theorem test_am28_izx_wraps :
    (resolveAt .izx (amState 0x01#8 0x00#8
      [(0x000, 0x12#8), (0x0FF, 0x34#8), (0x100, 0x99#8), (0x400, 0xFE#8)])).addr = 0x1234#16 := by decide

/-- AM34: IZY wraps at the top of the address space and crosses. -/
theorem test_am34_izy_wraps :
    (resolveAt .izy (amState 0x00#8 0x01#8 [(0x40, 0xFF#8), (0x41, 0xFF#8), (0x400, 0x40#8)])).addr = 0x0000#16 ∧
    (resolveAt .izy (amState 0x00#8 0x01#8 [(0x40, 0xFF#8), (0x41, 0xFF#8), (0x400, 0x40#8)])).crossed = true := by
  decide

/-- AM2: IMM reads nothing; its address is that of the operand byte. -/
theorem test_am2_imm : (resolveAt .imm (amState 0x00#8 0x00#8 [])).addr = 0x0400#16 ∧
    (resolveAt .imm (amState 0x00#8 0x00#8 [])).state.pc = 0x0401#16 := by decide

/-- AM13: a backward displacement. -/
theorem test_am13_rel : (resolveAt .rel (amState 0x00#8 0x00#8 [(0x400, 0x80#8)])).addr = 0xFF80#16 := by decide

/-! ## The bus, DMA, interrupts, reset, the cartridge -/

/-- BUS4, BUS7, BUS12, BUS13: the windows at their edges, with no cartridge. -/
theorem test_bus_writes :
    (memWrite 0x1FFF#16 0x5A#8 State.reset).ram = [(0x7FF, 0x5A#8)] ∧
    (memWrite 0x2008#16 0x5A#8 State.reset).picture.calls = [(0, .writeRegister 0#3 0x5A#8), (0, .reset)] ∧
    (memWrite 0x4015#16 0x5A#8 State.reset).sound.calls = [(0, .writeRegister 0x4015#16 0x5A#8), (0, .reset)] ∧
    memWrite 0x4016#16 0x5A#8 State.reset = State.reset ∧ memWrite 0x8000#16 0x5A#8 State.reset = State.reset := by
  decide

/-- BUS11, BUS15: unclaimed reads give 0x00. -/
theorem test_bus_unclaimed : memRead 0x4014#16 State.reset = (0x00#8, State.reset) ∧
    memRead 0x4020#16 (opState [] []) = (0x00#8, opState [] []) := by decide

/-- BUS18, BUS19: a 16 KB PRG is mirrored. -/
theorem test_bus_prg_mirror :
    (memRead 0xBFFF#16 (opState [(0x3FFF, 0x77#8)] [])).1 = 0x77#8 ∧
    (memRead 0xFFFF#16 (opState [(0x3FFF, 0x77#8)] [])).1 = 0x77#8 ∧
    (memRead 0xC000#16 (opState [(0, 0x11#8)] [])).1 = 0x11#8 := by decide

/-- A transfer from page 0x02 about to read its last byte. -/
def dmaState : State :=
  { State.reset with dmaActive := true, dmaPage := 0x02#8, dmaCursor := 0xFF#8, dmaPhase := .read,
                     ram := [(0x2FF, 0x42#8)] }

/-- The last pair of a transfer (V-DMA, clock counts 1566 and 1569 of DMA1). -/
theorem test_dma_last_pair :
    (dmaExecute dmaState).dmaStaging = 0x42#8 ∧ (dmaExecute dmaState).dmaPhase = .write ∧
    (dmaExecute (dmaExecute dmaState)).dmaActive = false ∧ (dmaExecute (dmaExecute dmaState)).dmaCursor = 0x00#8 ∧
    (dmaExecute (dmaExecute dmaState)).picture.calls = [(0, .oamDataWrite 0x42#8), (0, .reset)] := by decide

/-- DMA11: `nmi()` at PC = 0x8005 with the vector 0x9000 pushes 80, 05, 20. -/
theorem test_nmi_entry :
    (cpuNmi { opState [(0x3FFB, 0x90#8)] [] with pc := 0x8005#16 }).ram =
      [(0x1FB, 0x20#8), (0x1FC, 0x05#8), (0x1FD, 0x80#8)] ∧
    (cpuNmi { opState [(0x3FFB, 0x90#8)] [] with pc := 0x8005#16 }).sp = 0xFA#8 ∧
    (cpuNmi { opState [(0x3FFB, 0x90#8)] [] with pc := 0x8005#16 }).p = 0x24#8 ∧
    (cpuNmi { opState [(0x3FFB, 0x90#8)] [] with pc := 0x8005#16 }).pc = 0x9000#16 ∧
    (cpuNmi { opState [(0x3FFB, 0x90#8)] [] with pc := 0x8005#16 }).cycles = 8#8 := by decide

/-- The stack wraps inside page 0x01 (R23). -/
theorem test_push_wraps : (push 0x5A#8 { State.reset with sp := 0x00#8 }).ram = [(0x100, 0x5A#8)] ∧
    (push 0x5A#8 { State.reset with sp := 0x00#8 }).sp = 0xFF#8 := by decide

/-- T6: reset from a 16 KB image with the vector 0xC123. -/
theorem test_reset : (busReset { opState [(0x3FFC, 0x23#8), (0x3FFD, 0xC1#8)] [(5, 0x66#8)] with
      sp := 0x10#8, p := 0xFF#8, pc := 0x4242#16, cycles := 3#8, totalClocks := 999 }).pc = 0xC123#16 ∧
    (busReset (opState [] [(5, 0x66#8)])).ram = [(5, 0x66#8)] ∧ (busReset (opState [] [])).sp = 0xFD#8 ∧
    (busReset (opState [] [])).p = 0x20#8 ∧ (busReset (opState [] [])).cycles = 8#8 := by decide

/-- The image `H(p, c, f6, f7)` of V-CART with `size` bytes in all; what is not listed is 0x00. -/
def header (p c f6 f7 : Byte) (size : Nat) (body : Cells) : RomImage :=
  ⟨size, ([(0, 0x4E#8), (1, 0x45#8), (2, 0x53#8), (3, 0x1A#8), (4, p), (5, c), (6, f6), (7, f7)].filter
    fun cell => cell.2 != 0x00#8) ++ body⟩

/-- CART1, CART4, CART8: too short, bad magic, truncated by one byte. -/
theorem test_load_failures : loadImage ⟨0, []⟩ = .error .headerTooShort ∧
    loadImage ⟨16, [(0, 0x4E#8), (1, 0x45#8), (2, 0x53#8), (3, 0x1B#8)]⟩ = .error .badMagic ∧
    loadImage (header 0x01#8 0x00#8 0x00#8 0x00#8 16399 []) = .error .truncatedBody := by decide

/-- CART18, CART19, CART23: the mapper id of both nibbles, and the order of the checks. -/
theorem test_load_mapper : loadImage (header 0x01#8 0x00#8 0x40#8 0x40#8 16400 []) = .error (.unsupportedMapper 68#8) ∧
    loadImage (header 0x01#8 0x00#8 0xF1#8 0xF0#8 16400 []) = .error (.unsupportedMapper 255#8) ∧
    loadImage (header 0x01#8 0x00#8 0x10#8 0x00#8 116 []) = .error .truncatedBody := by decide

/-- CART13: two banks, one CHR bank, vertical; PRG[0] and CHR[0] are the bytes at 16 and 32784. -/
theorem test_load_ok : loadImage (header 0x02#8 0x01#8 0x01#8 0x00#8 40976 [(16, 0x11#8), (32784, 0x22#8)]) =
    .ok ⟨0x02#8, 0x01#8, 0x00#8, .vertical, .fixedBank, [(0, 0x11#8)], [(0, 0x22#8)]⟩ := by decide +kernel

/-- MAP16, MAP17: CHR-RAM stores, CHR-ROM ignores, 0x2000 is declined. -/
theorem test_ppu_side :
    cartridgePpuRead (cartridgePpuWrite (cart1 []) 0x0ABC#14 0x99#8).1 0x0ABC#14 = some 0x99#8 ∧
    cartridgePpuWrite { cart1 [] with chrCount := 0x01#8 } 0x0ABC#14 0x99#8 =
      ({ cart1 [] with chrCount := 0x01#8 }, true) ∧
    cartridgePpuRead (cart1 []) 0x2000#14 = none ∧ (cartridgePpuWrite (cart1 []) 0x3FFF#14 0x99#8).2 = false := by decide

/-- P1-like: a word placed by the host is the next instruction the machine runs. -/
theorem test_with_fetch_word : ∃ t, step (State.reset.withFetchWord 16 0x80A9) = .next t ∧ t.a = 0x80#8 ∧ t.p = 0xA0#8 ∧
    t.pc = 0x0002#16 ∧ t.opcode = 0xA9#8 := ⟨_, rfl, by decide⟩

/-- The hooks and the mirroring query have their default effects (R281, R285). -/
theorem test_hooks : cartridgeIrqState (cart1 []) = false ∧ cartridgeScanline (cart1 []) = cart1 [] ∧
    cartridgeIrqClear (cart1 []) = cart1 [] ∧ cartridgeReset (cart1 []) = cart1 [] ∧
    cartridgeMirrorMode (cart1 []) = .horizontal := by decide

/-! ## Witnesses: a concrete state and operands for the hypotheses of each obligation -/

/-- Does the step answer a next state with the property? -/
def steps (s : State) (f : State → Bool) : Bool :=
  match step s with
  | .next t => f t
  | .fault _ => false
  | .refused _ => false

/-- A state about to fetch: no call pending, a CPU slot, no transfer, the count-down at zero. -/
def fetchState (code : Cells) : State := opState code []

theorem witness_EncodeOfDecode : decode [0xAD#8, 0x34#8, 0x12#8, 0xEA#8] = .ok (.ldaAbs 0x1234#16, [0xEA#8]) := rfl

theorem witness_EveryOpcodeDecodes :
    operandCount 0x00#8 ≤ ([] : List Byte).length ∧ operandCount 0xF0#8 ≤ [0xFE#8].length ∧
    operandCount 0xAD#8 ≤ [0x34#8, 0x12#8].length := by decide

theorem witness_StepRunsDecodedInstruction :
    (fetchState [(0, 0xA9#8), (1, 0x80#8)]).pending = [] ∧ (fetchState [(0, 0xA9#8), (1, 0x80#8)]).clockCount % 3 = 0 ∧
    (fetchState [(0, 0xA9#8), (1, 0x80#8)]).dmaActive = false ∧ (fetchState [(0, 0xA9#8), (1, 0x80#8)]).cycles = 0#8 ∧
    readBytes 2 (fetchState [(0, 0xA9#8), (1, 0x80#8)]).pc (pictureClock (fetchState [(0, 0xA9#8), (1, 0x80#8)])) =
      ([0xA9#8, 0x80#8], pictureClock (fetchState [(0, 0xA9#8), (1, 0x80#8)])) ∧
    decode [0xA9#8, 0x80#8] = .ok (.ldaImm 0x80#8, []) :=
  ⟨rfl, by decide, rfl, rfl, by decide, rfl⟩

theorem witness_TickMatchesReference : (fetchState []).cycles = 0#8 := rfl

theorem witness_CountDownTick : State.reset.cycles ≠ 0#8 ∧ { State.reset with cycles := 1#8 }.cycles ≠ 0#8 ∧
    State.reset.pending = [] ∧ State.reset.clockCount % 3 = 0 ∧ State.reset.dmaActive = false := by decide

theorem witness_ClockDivider : State.reset.pending = [] ∧ { State.reset with clockCount := 5 }.pending = [] ∧
    steps { State.reset with pending := [.clock, .irq] } (fun t => t.clockCount == 1 && t.pending == [.irq]) = true := by
  decide

theorem witness_IdleOutsideSlots :
    { State.reset with clockCount := 1 }.pending = [] ∧ { State.reset with clockCount := 1 }.clockCount % 3 ≠ 0 ∧
    { State.reset with clockCount := 2 }.pending = [] ∧ { State.reset with clockCount := 2 }.clockCount % 3 ≠ 0 := by
  decide

/-- `STY $2014` and `STX $4015` in the slot: a register call is made in it, at the picture unit's new tick and at the
sound unit's old one. -/
theorem witness_PictureFirstSoundLast :
    (fetchState [(0, 0x8C#8), (1, 0x14#8), (2, 0x20#8)]).pending = [] ∧
    steps (fetchState [(0, 0x8C#8), (1, 0x14#8), (2, 0x20#8)])
      (fun t => t.picture.calls == [(1, .writeRegister 4#3 0x05#8), (0, .reset)]) = true ∧
    steps (fetchState [(0, 0x8E#8), (1, 0x15#8), (2, 0x40#8)])
      (fun t => t.sound.calls == [(0, .writeRegister 0x4015#16 0x04#8), (0, .reset)] && t.sound.ticks == 1) = true :=
  ⟨rfl, by decide, by decide⟩

theorem witness_FirstFetchAtCount24 :
    State.reset.pending = [] ∧ State.reset.clockCount = 0 ∧ State.reset.dmaActive = false ∧ State.reset.cycles = 8#8 :=
  ⟨rfl, rfl, rfl, rfl⟩

theorem witness_BranchCosts :
    (Instr.bcc 0x10#8).descriptor.handler = .branch .carryClear ∧ (Instr.bcs 0x10#8).descriptor.handler = .branch .carrySet ∧
    (Instr.bne 0x10#8).descriptor.handler = .branch .notEqual ∧ (Instr.beq 0x10#8).descriptor.handler = .branch .equal :=
  ⟨rfl, rfl, rfl, rfl⟩

theorem witness_UnimplementedIsOneByteNoEffect :
    Instr.unimp00.descriptor = unimplemented ∧ Instr.unimpEA.descriptor = unimplemented ∧
    Instr.unimpFF.descriptor = unimplemented := ⟨rfl, rfl, rfl⟩

/-- An immediate load, and a load that is not. -/
theorem witness_LoadHandlerFrame :
    (Instr.ldaImm 0x80#8).descriptor.handler = .load .a ∧ operandOf (.ldaImm 0x80#8) = .imm 0x80#8 ∧
    (Instr.ldxAby 0x0300#16).descriptor.handler = .load .x ∧ (∀ v, operandOf (.ldxAby 0x0300#16) ≠ .imm v) ∧
    isMemory 0x1FFF#16 = true ∧ isMemory 0x4014#16 = true ∧ isMemory 0x8000#16 = true ∧ isMemory 0x2000#16 = false :=
  ⟨rfl, rfl, rfl, fun _ => Operand.noConfusion, by decide, by decide, by decide, by decide⟩

/-- A store to RAM, and a store to the DMA trigger. -/
theorem witness_StoreHandlerFrame :
    (Instr.staAbs 0x0200#16).descriptor.handler = .store .a ∧
    effectiveAddress (.staAbs 0x0200#16) State.reset = 0x0200#16 ∧
    sameRamCell 0x0201#16 (effectiveAddress (.staAbs 0x0200#16) State.reset) = false ∧
    effectiveAddress (.styAbs 0x4014#16) State.reset = 0x4014#16 := ⟨rfl, rfl, by decide, rfl⟩

theorem witness_BranchAndUnimplementedFrame :
    (∃ c, (Instr.bcc 0x10#8).descriptor.handler = .branch c) ∧ Instr.unimp00.descriptor.handler = .none :=
  ⟨⟨_, rfl⟩, rfl⟩

/-- The stored cell read back through its highest mirror. -/
theorem witness_StoreThenRead :
    (Instr.staZp0 0x10#8).descriptor.handler = .store .a ∧
    sameRamCell 0x1810#16 (effectiveAddress (.staZp0 0x10#8) State.reset) = true := ⟨rfl, by decide⟩

/-- AM21: the base 0xFFFF. -/
theorem witness_AbsoluteIndexed :
    0xFFFF#16 = wordOf
      (memRead ((amState 0x01#8 0x01#8 [(0x400, 0xFF#8), (0x401, 0xFF#8)]).pc + 1#16)
        (memRead (amState 0x01#8 0x01#8 [(0x400, 0xFF#8), (0x401, 0xFF#8)]).pc
          (amState 0x01#8 0x01#8 [(0x400, 0xFF#8), (0x401, 0xFF#8)])).2).1
      (memRead (amState 0x01#8 0x01#8 [(0x400, 0xFF#8), (0x401, 0xFF#8)]).pc
        (amState 0x01#8 0x01#8 [(0x400, 0xFF#8), (0x401, 0xFF#8)])).1 := by decide

/-- The quirk's pointer, and one whose high byte is read behind its low byte. -/
theorem witness_IndirectPageWrap :
    (nextWord (amState 0x00#8 0x00#8 [(0x400, 0xFF#8), (0x401, 0x02#8)])).1 = wordOf 0x02#8 0xFF#8 ∧
    (nextWord (amState 0x00#8 0x00#8 [(0x400, 0xFE#8), (0x401, 0x02#8)])).1 = wordOf 0x02#8 0xFE#8 ∧
    wordOf 0x02#8 0xFE#8 + 1#16 = 0x02FF#16 := by decide

theorem witness_RamReadsBack : 0x0000#16 ≤ 0x1FFF#16 ∧ 0x1FFF#16 ≤ 0x1FFF#16 := by decide

/-- Each clause of the bus decode at the ends of its range. -/
theorem witness_BusReadDecode :
    cartCpuRead 0x1FFF#16 (opState [] []) = none ∧ cartCpuRead 0x2000#16 (opState [] []) = none ∧
    cartCpuRead 0x3FFF#16 (opState [] []) = none ∧ cartCpuRead 0x4000#16 (opState [] []) = none ∧
    cartCpuRead 0x4013#16 (opState [] []) = none ∧ cartCpuRead 0x4014#16 (opState [] []) = none ∧
    cartCpuRead 0x4015#16 (opState [] []) = none ∧ cartCpuRead 0x4016#16 (opState [] []) = none ∧
    cartCpuRead 0x7FFF#16 (opState [] []) = none ∧ cartCpuRead 0x8000#16 State.reset = none ∧
    cartCpuRead 0xFFFF#16 State.reset = none ∧
    steps { opState [] [(0x10, 0x5A#8)] with pending := [.busRead 0x0810#16] }
      (fun t => t.reply == .data 0x5A#8 && t.outOfContract) = true := by decide

theorem witness_BusWriteDecode :
    cartCpuWrite 0x1FFF#16 0x5A#8 (opState [] []) = false ∧ cartCpuWrite 0x2000#16 0x5A#8 (opState [] []) = false ∧
    cartCpuWrite 0x3FFF#16 0x5A#8 (opState [] []) = false ∧ cartCpuWrite 0x4000#16 0x5A#8 (opState [] []) = false ∧
    cartCpuWrite 0x4013#16 0x5A#8 (opState [] []) = false ∧ cartCpuWrite 0x4014#16 0x5A#8 (opState [] []) = false ∧
    cartCpuWrite 0x4015#16 0x5A#8 (opState [] []) = false ∧ cartCpuWrite 0x4016#16 0x5A#8 (opState [] []) = false ∧
    cartCpuWrite 0x7FFF#16 0x5A#8 (opState [] []) = false ∧ cartCpuWrite 0xFFFF#16 0x5A#8 State.reset = false ∧
    steps { opState [] [] with pending := [.busWrite 0x4014#16 0x02#8] }
      (fun t => t.dmaActive && t.dmaPage == 0x02#8 && t.outOfContract) = true := by
  decide

theorem witness_LowAddressesNotClaimed :
    (opState [] []).cart = some (cart1 []) ∧ 0x7FFF#16 < 0x8000#16 ∧ 0x0000#16 < 0x8000#16 ∧
    0x4020#16 ≤ 0x4020#16 ∧ 0x4020#16 < 0x8000#16 ∧ 0x4020#16 ≤ 0x7FFF#16 := by decide

theorem witness_RomWriteClaimedNoEffect :
    (opState [] []).cart = some (cart1 []) ∧ 0x8000#16 ≤ 0x8000#16 ∧ 0x8000#16 ≤ 0xFFFF#16 := by decide

/-- The three cases of a ROM read: PRG, an empty PRG, no cartridge. -/
theorem witness_RomRead :
    0x8000#16 ≤ 0xFFFF#16 ∧ (opState [] []).cart = some (cart1 []) ∧ (cart1 []).prgCount ≠ 0#8 ∧
    { cart1 [] with prgCount := 0x00#8 }.prgCount = 0#8 ∧ State.reset.cart = none := by decide

theorem witness_HalfSizePrgMirrored :
    (cart1 []).prgCount = 1#8 ∧ 0x8000#16 ≤ 0x8000#16 ∧ 0x8000#16 ≤ 0xFFFF#16 := by decide

/-- A read half at the end of a RAM page and from a picture, the sound and a PRG page; a write half in the middle of a
page, and the last one. -/
theorem witness_DmaWriteStepEffect :
    dmaState.dmaPhase = .read ∧ wordOf dmaState.dmaPage dmaState.dmaCursor = 0x02FF#16 ∧
    (memRead 0x3FFF#16 dmaState).2.picture.calls = [(0, .readRegister 7#3), (0, .reset)] ∧
    (memRead 0x4015#16 dmaState).2.sound.calls = [(0, .readRegister 0x4015#16), (0, .reset)] ∧
    (memRead 0x8000#16 { dmaState with cart := some (cart1 [(0, 0x77#8)]), dmaPage := 0x80#8 }).1 = 0x77#8 ∧
    { dmaState with dmaPhase := .write, dmaCursor := 0x10#8 }.dmaPhase = .write ∧ (dmaExecute dmaState).dmaPhase = .write ∧
    (dmaExecute dmaState).dmaCursor = 0xFF#8 := by decide

theorem witness_TransferTakes512Steps :
    { dmaState with dmaCursor := 0x00#8 }.dmaActive = true ∧ { dmaState with dmaCursor := 0x00#8 }.dmaCursor = 0x00#8 ∧
    { dmaState with dmaCursor := 0x00#8 }.dmaPhase = .read := ⟨rfl, rfl, rfl⟩

theorem witness_TransferCopiesRamPage :
    { dmaState with dmaCursor := 0x00#8, dmaPage := 0x1F#8 }.dmaActive = true ∧
    { dmaState with dmaCursor := 0x00#8, dmaPage := 0x1F#8 }.dmaCursor = 0x00#8 ∧
    { dmaState with dmaCursor := 0x00#8, dmaPage := 0x1F#8 }.dmaPhase = .read ∧
    { dmaState with dmaCursor := 0x00#8, dmaPage := 0x1F#8 }.dmaPage < 0x20#8 := by decide

/-- A clock in a CPU slot, which runs the read half, and a clock outside the slots, which runs none. -/
theorem witness_TransferStarvesCpu :
    dmaState.pending = [] ∧ dmaState.dmaActive = true ∧ dmaState.clockCount % 3 = 0 ∧
    steps dmaState (fun t => t.dmaPhase == .write && t.dmaStaging == 0x42#8) = true ∧
    { dmaState with clockCount := 1 }.clockCount % 3 ≠ 0 ∧
    steps { dmaState with clockCount := 1 } (fun t => t.dmaPhase == .read && t.dmaStaging == 0x00#8) = true := by decide

/-- One image with CHR-ROM and one with CHR-RAM load. -/
theorem witness_LoadedArrays :
    loadImage (header 0x01#8 0x01#8 0x00#8 0x00#8 24592 []) =
      .ok (imageCartridge (header 0x01#8 0x01#8 0x00#8 0x00#8 24592 [])) ∧
    (imageByte (header 0x01#8 0x01#8 0x00#8 0x00#8 24592 []) 5).toNat ≠ 0 ∧
    loadImage (header 0x01#8 0x00#8 0x00#8 0x00#8 16400 []) =
      .ok (imageCartridge (header 0x01#8 0x00#8 0x00#8 0x00#8 16400 [])) ∧
    (imageByte (header 0x01#8 0x00#8 0x00#8 0x00#8 16400 []) 5).toNat = 0 ∧ (0x1FFF#14).toNat < 8192 := by
  decide +kernel

/-- A load that fails, and one that succeeds for each mirroring bit. -/
theorem witness_FailedLoadChangesNothing :
    { State.reset with pending := [.load ⟨0, []⟩] }.pending = [.load ⟨0, []⟩] ∧
    loadImage ⟨0, []⟩ = .error .headerTooShort ∧
    loadImage (header 0x00#8 0x00#8 0x00#8 0x00#8 16 []) =
      .ok (imageCartridge (header 0x00#8 0x00#8 0x00#8 0x00#8 16 [])) ∧
    (imageCartridge (header 0x00#8 0x00#8 0x00#8 0x00#8 16 [])).mirroring = .horizontal ∧
    loadImage (header 0x00#8 0x00#8 0x01#8 0x00#8 16 []) =
      .ok (imageCartridge (header 0x00#8 0x00#8 0x01#8 0x00#8 16 [])) ∧
    (imageCartridge (header 0x00#8 0x00#8 0x01#8 0x00#8 16 [])).mirroring = .vertical := by decide

/-- The picture unit writes CHR-RAM. -/
theorem witness_CartridgeFixedAfterLoad :
    { opState [] [] with pending := [.ppuWrite 0x0ABC#14 0x99#8] }.cart = some (cart1 []) ∧
    steps { opState [] [] with pending := [.ppuWrite 0x0ABC#14 0x99#8] }
      (fun t => t.cart == some { cart1 [] with chr := [(0x0ABC, 0x99#8)] }) = true ∧
    (∀ im rest, ([.ppuWrite 0x0ABC#14 0x99#8] : List EnvCall) ≠ .load im :: rest) ∧
    chrIsRam { cart1 [] with chrCount := 0x01#8 } = false :=
  ⟨rfl, by decide, by simp, by decide⟩

/-- CHR-ROM reads the image's byte. -/
theorem witness_PictureSideAccess :
    cartridgePpuRead { cart1 [] with chrCount := 0x01#8, chr := [(0x1FFF, 0x99#8)] } 0x1FFF#14 = some 0x99#8 ∧
    0x1FFF#14 ≤ 0x1FFF#14 ∧ 0x0000#14 ≤ 0x1FFF#14 ∧ 0x0000#14 ≠ 0x1FFF#14 ∧ chrIsRam (cart1 []) = true ∧
    chrIsRam { cart1 [] with chrCount := 0x01#8 } = false ∧ 0x1FFF#14 < 0x2000#14 ∧ 0x1FFF#14 < 0x3FFF#14 := by decide

/-- Each picture-side call, hook and `cartridge.reset()` pending, with a cartridge; a write and a read without one. -/
theorem witness_PictureSideAccess_step :
    steps { opState [] [] with pending := [.ppuWrite 0x1FFF#14 0x99#8] } (fun t =>
      t.cart == some { cart1 [] with chr := [(0x1FFF, 0x99#8)] } &&
      t.picture.calls == [(0, .ppuWrite 0x1FFF#14 0x99#8 true), (0, .reset)]) = true ∧
    steps { opState [] [] with pending := [.ppuRead 0x2000#14] } (fun t =>
      t.picture.calls == [(0, .ppuRead 0x2000#14 none), (0, .reset)]) = true ∧
    steps { opState [] [] with pending := [.mirrorMode] } (fun t =>
      t.picture.calls == [(0, .mirrorMode (some .horizontal)), (0, .reset)]) = true ∧
    steps { State.reset with pending := [.ppuWrite 0x0000#14 0x99#8] } (fun t => t.cart == none) = true ∧
    steps { State.reset with pending := [.ppuRead 0x0000#14] } (fun t => t.cart == none) = true ∧
    steps { opState [] [] with pending := [.scanline] } (fun t => t == opState [] []) = true ∧
    steps { opState [] [] with pending := [.irqClear] } (fun t => t == opState [] []) = true ∧
    steps { opState [] [] with pending := [.cartReset] } (fun t => t == opState [] []) = true ∧
    steps { opState [] [] with pending := [.irqState] } (fun t => t.reply == .irqLine false) = true := by decide

theorem witness_MaskedIrqIsLost :
    { State.reset with p := 0x24#8, pending := [.irq] }.pending = [.irq] ∧
    getFlag .interruptDisable { State.reset with p := 0x24#8, pending := [.irq] }.p = true := by decide

/-- Each of the two interrupts, SP at the wrap. -/
theorem witness_InterruptEntryEffect :
    { State.reset with sp := 0x01#8, pending := [.irq] }.pending = [.irq] ∧
    getFlag .interruptDisable { State.reset with sp := 0x01#8, pending := [.irq] }.p = false ∧
    { State.reset with p := 0xFF#8, pending := [.nmi] }.pending = [.nmi] := by decide

theorem witness_ResetEffect : { dmaState with pending := [.reset] }.pending = [.reset] := rfl

/-- The state the model starts in meets the premise of each invariant, and steps. -/
theorem witness_invariants :
    memoryWf State.reset = true ∧ unusedSet State.reset = true ∧ dmaIdleAtStart State.reset = true ∧
    cyclesBounded State.reset = true ∧ untouchedFlagsClear State.reset = true ∧
    steps State.reset (fun t => t.clockCount == 1) = true := by decide

/-- A store fetched with an image still to be loaded. -/
def loadingState : State :=
  { fetchState [(0, 0x85#8), (1, 0x10#8)] with
    pending := [.clock, .load (header 0x01#8 0x00#8 0x00#8 0x00#8 16400 [])] }

/-- Memory and the image still to be loaded are in canonical form, and the step writes RAM. -/
theorem witness_StepKeepsMemoryForm : memoryWf loadingState = true ∧
    steps loadingState (fun t => t.ram == [(0x10, 0xEE#8)]) = true := by decide

/-- A reset and each taken interrupt step from a state with the Unused flag clear. -/
theorem witness_StepKeepsUnusedSet :
    steps { State.reset with p := 0x00#8, pending := [.reset] } (fun t => unusedSet t) = true ∧
    steps { State.reset with p := 0x04#8, pending := [.nmi] } (fun t => unusedSet t) = true ∧
    steps { State.reset with p := 0x00#8, pending := [.irq] } (fun t => unusedSet t) = true ∧
    getFlag .interruptDisable { State.reset with p := 0x00#8, pending := [.irq] }.p = false := by decide

/-- A clock, a masked and a taken `irq()`, `nmi()` and a reset each step. -/
theorem witness_MaskSetUntilReset :
    getFlag .interruptDisable { State.reset with p := 0x24#8 }.p = true ∧
    steps { State.reset with p := 0x24#8 } (fun t => t.p == 0x24#8) = true ∧
    (∀ rest, { State.reset with p := 0x24#8 }.pending ≠ .reset :: rest) ∧
    steps { State.reset with p := 0x24#8, pending := [.irq] } (fun t => t.p == 0x24#8) = true ∧
    steps { State.reset with p := 0x20#8, pending := [.irq] } (fun t => t.p == 0x24#8) = true ∧
    steps { State.reset with p := 0x20#8, pending := [.nmi] } (fun t => t.p == 0x24#8) = true ∧
    steps { State.reset with p := 0x24#8, pending := [.reset] } (fun t => t.p == 0x20#8) = true :=
  ⟨by decide, by decide, (fun _ h => by cases h), by decide, by decide, by decide, by decide⟩

/-- `nmi()` moves SP. -/
theorem witness_StackPointerMovesOnlyByEntryAndReset :
    steps { State.reset with pending := [.nmi] } (fun t => t.sp != State.reset.sp) = true := by decide

/-- A store instruction changes RAM in a clock, and so do a taken `irq()`, an `nmi()` and the driver's bus write. -/
theorem witness_RamChangesOnlyByStores :
    (fetchState [(0, 0x85#8), (1, 0x10#8)]).pending = [] ∧
    steps (fetchState [(0, 0x85#8), (1, 0x10#8)]) (fun t => t.ram != []) = true ∧
    steps { fetchState [(0, 0x85#8), (1, 0x10#8)] with pending := [.clock] } (fun t => t.ram != []) = true ∧
    steps { State.reset with pending := [.irq] } (fun t => t.ram != []) = true ∧
    steps { State.reset with pending := [.nmi] } (fun t => t.ram != []) = true ∧
    steps { State.reset with pending := [.busWrite 0x1FFF#16 0x5A#8] } (fun t => t.ram == [(0x7FF, 0x5A#8)]) = true :=
  ⟨rfl, by decide, by decide, by decide, by decide, by decide⟩

end Sys2Proof.Tests
end

section
/-!
SUPPORT. The picture side of the cartridge (47_cartridge_mapper R285, R290-R294): what the mapper's `ppu_read` and
`ppu_write` answer in each address range, that a write to CHR-RAM is read back, what each call of the picture unit and
each hook does in a step, and the proof of `Obligations.PictureSideAccess`.
-/

namespace Sys2Proof.Machine

/-! ## The mapper, by address range and kind of CHR (R290-R292) -/

section
variable {c : Cartridge} {a : PicAddr}

theorem cartridgePpuRead_low (h : a ≤ 0x1FFF#14) :
    cartridgePpuRead c a = some (cellsRead (chrRegion c) a.toNat c.chr) := by
  unfold cartridgePpuRead
  cases c.mapper
  exact if_pos h

theorem cartridgePpuRead_high (h : 0x1FFF#14 < a) : cartridgePpuRead c a = none := by
  unfold cartridgePpuRead
  cases c.mapper
  exact if_neg (BitVec.not_le.mpr h)

theorem cartridgePpuWrite_low (h : a ≤ 0x1FFF#14) (v : Byte) :
    cartridgePpuWrite c a v =
      (if chrIsRam c then { c with chr := cellsWrite .chrRam a.toNat v c.chr } else c, true) := by
  unfold cartridgePpuWrite
  cases c.mapper
  exact if_pos h

theorem cartridgePpuWrite_high (h : 0x1FFF#14 < a) (v : Byte) : cartridgePpuWrite c a v = (c, false) := by
  unfold cartridgePpuWrite
  cases c.mapper
  exact if_neg (BitVec.not_le.mpr h)

theorem cartridgePpuWrite_chrRam (h : a ≤ 0x1FFF#14) (hr : chrIsRam c = true) (v : Byte) :
    (cartridgePpuWrite c a v).1 = { c with chr := cellsWrite .chrRam a.toNat v c.chr } := by
  rw [cartridgePpuWrite_low h, if_pos hr]

theorem cartridgePpuWrite_chrRom (h : a ≤ 0x1FFF#14) (hr : chrIsRam c = false) (v : Byte) :
    (cartridgePpuWrite c a v).1 = c := by
  simp [cartridgePpuWrite_low h, hr]

theorem chrRegion_chrRam (hr : chrIsRam c = true) : chrRegion c = .chrRam := if_pos hr

theorem chrRegion_setChr (c : Cartridge) (m : Cells) : chrRegion { c with chr := m } = chrRegion c := rfl

theorem chrRegion_chrRom (hr : chrIsRam c = false) : chrRegion c = .rom := by simp [chrRegion, hr]

/-- CHR has at least one bank of 8192 bytes: CHR-RAM is one, and CHR-ROM has a count that is not 0 (R48, R274). -/
theorem le_chrLength (c : Cartridge) : 8192 ≤ chrLength c := by
  unfold chrLength
  cases hr : chrIsRam c with
  | true => simp
  | false =>
    have hcount : c.chrCount ≠ 0#8 := by simpa [chrIsRam] using hr
    have hpos : c.chrCount.toNat ≠ 0 := fun e => hcount (BitVec.eq_of_toNat_eq e)
    simp only [Bool.false_eq_true, if_false]
    omega

/-- A CHR-RAM cell after a write to CHR-RAM: the byte written to it, else what it held (R290, R291; D28). -/
theorem cartridgePpuRead_ppuWrite_chrRam {b : PicAddr} (ha : a ≤ 0x1FFF#14) (hb : b ≤ 0x1FFF#14)
    (hr : chrIsRam c = true) (v : Byte) :
    cartridgePpuRead (cartridgePpuWrite c a v).1 b = if a = b then some v else cartridgePpuRead c b := by
  rw [cartridgePpuWrite_chrRam ha hr, cartridgePpuRead_low hb, cartridgePpuRead_low hb, chrRegion_setChr,
    chrRegion_chrRam hr, cellsRead_write_chrRam]
  simp only [BitVec.toNat_inj, apply_ite some]

theorem cartridgePpuRead_ppuWrite_chrRam_of_ne {b : PicAddr} (ha : a ≤ 0x1FFF#14) (hr : chrIsRam c = true)
    (hne : b ≠ a) (v : Byte) : cartridgePpuRead (cartridgePpuWrite c a v).1 b = cartridgePpuRead c b := by
  by_cases hb : b ≤ 0x1FFF#14
  · rw [cartridgePpuRead_ppuWrite_chrRam ha hb hr, if_neg hne.symm]
  · rw [cartridgePpuRead_high (BitVec.not_le.mp hb), cartridgePpuRead_high (BitVec.not_le.mp hb)]

end

/-! ## Calling the cartridge (R285, R293, R294)

The fixed-bank mapper has no state, so its hooks and its reset are the identity. -/

theorem cartridgeMirrorMode_eq (c : Cartridge) : cartridgeMirrorMode c = c.mirroring := by
  unfold cartridgeMirrorMode
  cases c.mapper
  rfl

theorem cartridgeReset_eq (c : Cartridge) : cartridgeReset c = c := by
  unfold cartridgeReset
  cases c.mapper
  rfl

theorem cartridgeScanline_eq (c : Cartridge) : cartridgeScanline c = c := by
  unfold cartridgeScanline
  cases c.mapper
  rfl

theorem cartridgeIrqClear_eq (c : Cartridge) : cartridgeIrqClear c = c := by
  unfold cartridgeIrqClear
  cases c.mapper
  rfl

theorem cartridgeIrqState_eq (c : Cartridge) : cartridgeIrqState c = false := by
  unfold cartridgeIrqState
  cases c.mapper
  rfl

/-- A call that keeps every cartridge keeps the state. -/
theorem withCart_of_eq {f : Cartridge → Cartridge} (hf : ∀ c, f c = c) (s : State) : withCart f s = s := by
  have hid : f = id := funext hf
  rw [withCart, hid, Option.map_id]
  rfl

theorem driverIrqState_eq (s : State) : driverIrqState s = { s with reply := .irqLine false } := by
  have answer : (s.cart.map cartridgeIrqState).getD false = false := by
    cases s.cart with
    | none => rfl
    | some c => exact cartridgeIrqState_eq c
  rw [driverIrqState, answer, setReply]

/-- A picture-side write replaces the cartridge, where there is one, by the mapper's, and records whether the mapper
claimed it (R12, R291; log 3, 18). -/
theorem picturePpuWrite_eq (a : PicAddr) (v : Byte) (s : State) :
    picturePpuWrite a v s =
      pictureCall (.ppuWrite a v ((s.cart.map fun c => (cartridgePpuWrite c a v).2).getD false))
        { s with cart := s.cart.map fun c => (cartridgePpuWrite c a v).1 } := by
  cases hc : s.cart with
  | none =>
    simp only [picturePpuWrite, hc, Option.map_none, Option.getD_none]
    rw [← hc]
  | some c => simp only [picturePpuWrite, hc, Option.map_some, Option.getD_some]

/-! ## The obligation -/

/-- Settles O46: the mapper by address range and kind of CHR; each step is the call at the head of `pending`. -/
theorem pictureSideAccess : Obligations.PictureSideAccess := by
  unfold Obligations.PictureSideAccess
  refine ⟨fun c a b v => ⟨fun ha => ?_, fun ha => ?_⟩, fun s rest a v hp => ?_, fun s rest a hp => ?_,
    fun s rest hp => ?_, fun s rest => ⟨?_, fun hp => ?_⟩⟩
  · -- 0x0000-0x1FFF: CHR
    have hlt : a.toNat < 8192 := by bv_omega
    refine ⟨hlt.trans_le (le_chrLength c), by rw [cartridgePpuWrite_low ha], fun hr => ⟨?_, ?_, fun hne => ?_⟩,
      fun hr => ⟨?_, cartridgePpuWrite_chrRom ha hr v⟩⟩
    · rw [cartridgePpuRead_low ha, chrRegion_chrRam hr]
    · rw [cartridgePpuRead_ppuWrite_chrRam ha ha hr, if_pos rfl]
    · exact cartridgePpuRead_ppuWrite_chrRam_of_ne ha hr hne v
    · rw [cartridgePpuRead_low ha, chrRegion_chrRom hr]
  · -- 0x2000-0x3FFF: declined
    exact ⟨cartridgePpuWrite_high ha v, cartridgePpuRead_high ha⟩
  · -- `ppu_write`
    refine ⟨_, fun c hc => ?_, by rw [step_of_call hp, runCall, picturePpuWrite_eq]; rfl⟩
    rw [hc]; rfl
  · -- `ppu_read`
    refine ⟨_, fun c hc => ?_, by rw [step_of_call hp, runCall, picturePpuRead]; rfl⟩
    rw [hc]; rfl
  · -- `mirror_mode`
    refine ⟨_, fun c hc => ?_, by rw [step_of_call hp, runCall, pictureMirrorMode]; rfl⟩
    rw [hc, Option.map_some, cartridgeMirrorMode_eq]
  · -- the hooks without an answer, and `cartridge.reset()`
    rintro (hp | hp | hp) <;> rw [step_of_call hp, runCall]
    · rw [withCart_of_eq cartridgeScanline_eq]
    · rw [withCart_of_eq cartridgeIrqClear_eq]
    · rw [withCart_of_eq cartridgeReset_eq]
  · -- `irq_state()`
    rw [step_of_call hp, runCall, driverIrqState_eq]

end Sys2Proof.Machine
end

section
/-!
SUPPORT. What a step can do to the status byte, to RAM and to the cartridge (10_state R25-R34, R40, R48, R52): the
effect of a system clock and of each call of the environment on the three, each said once, and the proofs of
`Obligations.StepKeepsUnusedSet`, `Obligations.StepKeepsUntouchedFlagsClear`, `Obligations.MaskSetUntilReset`,
`Obligations.RamChangesOnlyByStores` and `Obligations.CartridgeFixedAfterLoad`.
-/

namespace Sys2Proof.Machine

/-! ## Flags by name -/

theorem flagBit_lt (f : Flag) : flagBit f < 8 := by cases f <;> decide

theorem flagBit_inj {f g : Flag} : flagBit f = flagBit g ↔ f = g := by
  cases f <;> cases g <;> decide

/-- A flag written reads back, and no other flag moves (R25). -/
theorem getFlag_setFlag (f g : Flag) (b : Bool) (p : Byte) :
    getFlag f (setFlag g b p) = if g = f then b else getFlag f p := by
  have mask : (1#8 <<< flagBit g).getLsbD (flagBit f) = decide (g = f) := by
    rw [← BitVec.twoPow_eq, BitVec.getLsbD_twoPow]
    simp [flagBit_lt, flagBit_inj]
  unfold getFlag setFlag
  cases b with
  | false =>
    simp only [Bool.false_eq_true, if_false, BitVec.getLsbD_and, BitVec.getLsbD_not, mask, flagBit_lt]
    by_cases h : g = f <;> simp [h]
  | true =>
    simp only [if_true, BitVec.getLsbD_or, mask]
    by_cases h : g = f <;> simp [h]

/-- The status byte interrupt entry leaves in the register (R305). -/
def enteredStatus (p : Byte) : Byte := setFlag .interruptDisable true (entryStatus p)

/-- Interrupt entry sets I and U, clears B, and keeps the five other flags (R28, R30, R31, R305; D30). -/
theorem getFlag_enteredStatus (f : Flag) (p : Byte) :
    getFlag f (enteredStatus p) =
      if f = .interruptDisable ∨ f = .unused then true else if f = .breakSignal then false else getFlag f p := by
  simp only [enteredStatus, entryStatus, getFlag_setFlag]
  cases f <;> rfl

/-- `cpu.reset()` leaves only the Unused flag set (R28, R31, R331). -/
theorem getFlag_resetStatus (f : Flag) : getFlag f 0x20#8 = decide (f = .unused) := by cases f <;> decide

/-! ## One system clock -/

/-- `t` is reached by a fetch tick, and the opcode fetched in it is a store's (R244, R258). -/
def FetchesStore (s t : State) : Prop :=
  s.clockCount % 3 = 0 ∧ s.dmaActive = false ∧ s.cycles = 0#8 ∧
    t.opcode = (memRead s.pc (pictureClock s)).1 ∧ ∃ r, (DESC t.opcode).handler = .store r

/-- What a system clock keeps: the cartridge, every flag but Z and N, and RAM unless it fetches a store. -/
structure ClockFrame (s t : State) : Prop where
  cart : t.cart = s.cart
  flags : ∀ f : Flag, f ≠ .zero → f ≠ .negative → getFlag f t.p = getFlag f s.p
  ram : t.ram = s.ram ∨ FetchesStore s t

theorem ClockFrame.of_eq {s t : State} (hc : t.cart = s.cart) (hp : t.p = s.p) (hr : t.ram = s.ram) : ClockFrame s t :=
  ⟨hc, fun _ _ _ => by rw [hp], .inl hr⟩

theorem ClockFrame.clockTail {s u : State} (h : ClockFrame s u) : ClockFrame s (clockTail u) where
  cart := by rw [clockTail_cart, h.cart]
  flags := by rw [clockTail_p]; exact h.flags
  ram := by
    unfold FetchesStore
    rw [clockTail_ram, clockTail_opcode]
    exact h.ram

theorem ClockFrame.countTick {s u : State} (h : ClockFrame s u) : ClockFrame s (countTick u) :=
  ⟨h.cart, h.flags, h.ram⟩

/-- A fetch tick: what the instruction keeps of the state its bytes were read in (R130, R131). -/
theorem execFrame_fetch_clockFrame {s v : State} (hslot : s.clockCount % 3 = 0) (hdma : s.dmaActive = false)
    (hcycles : s.cycles = 0#8) (h : ExecFrame (fetch (pictureClock s)).1 (fetch (pictureClock s)).2 v) :
    ClockFrame s v := by
  have hfetch := (fetch_frame (pictureClock s)).2
  have hcart : (fetch (pictureClock s)).2.cart = s.cart := by rw [hfetch]; rfl
  have hp : (fetch (pictureClock s)).2.p = s.p := by rw [hfetch]; rfl
  have hram : (fetch (pictureClock s)).2.ram = s.ram := by rw [hfetch]; rfl
  obtain ⟨hop, hdesc⟩ := fetch_opcode (pictureClock s)
  refine ⟨h.cart.trans hcart, fun f hz hn => (h.flags f hz hn).trans (by rw [hp]), ?_⟩
  rcases h.ram with hkeep | ⟨⟨r, hstore⟩, -⟩
  · exact .inl (hkeep.trans hram)
  · have hopcode := h.opcode.trans hop
    exact .inr ⟨hslot, hdma, hcycles, hopcode, r, by rw [hopcode, ← hdesc, hstore]⟩

/-- Outside the slots, in a transfer and in the count-down a clock keeps all three; the rest is the fetch tick. -/
theorem busClock_frame {s t : State} (h : busClock s = .next t) : ClockFrame s t := by
  obtain ⟨u, hu, hslots⟩ := busClock_cases s
  obtain rfl : clockTail u = t := Host.Outcome.next.inj (hu.symm.trans h)
  apply ClockFrame.clockTail
  rcases hslots with ⟨-, rfl⟩ | ⟨-, -, rfl⟩ | ⟨hslot, hdma, htick⟩
  · exact .of_eq rfl rfl rfl
  · rw [(dmaExecute_frame (pictureClock s)).2.1]
    exact .of_eq rfl rfl rfl
  · rcases cpuTick_cases (pictureClock s) with ⟨-, e⟩ | ⟨hcycles, v, -, hexec, e⟩
    · obtain rfl := Host.Outcome.next.inj (e.symm.trans htick)
      exact .of_eq rfl rfl rfl
    · obtain rfl := Host.Outcome.next.inj (e.symm.trans htick)
      exact (execFrame_fetch_clockFrame hslot hdma hcycles hexec).countTick

/-! ## The calls of the environment -/

/-- The calls that touch neither the status byte, nor RAM, nor the cartridge. -/
def isQuiet : EnvCall → Bool
  | .busRead _ | .ppuRead _ | .mirrorMode | .cartReset | .scanline | .irqState | .irqClear => true
  | _ => false

theorem runCall_quiet {c : EnvCall} {s t : State} (hc : isQuiet c = true) (h : runCall c s = .next t) :
    t.p = s.p ∧ t.ram = s.ram ∧ t.cart = s.cart := by
  cases c with
  | busRead a =>
    obtain rfl := Host.Outcome.next.inj h
    exact ⟨memRead_snd_p s a, memRead_snd_ram s a, memRead_snd_cart s a⟩
  | ppuRead a =>
    obtain rfl := Host.Outcome.next.inj h
    exact ⟨rfl, rfl, rfl⟩
  | mirrorMode =>
    obtain rfl := Host.Outcome.next.inj h
    exact ⟨rfl, rfl, rfl⟩
  | irqState =>
    obtain rfl := Host.Outcome.next.inj h
    exact ⟨rfl, rfl, rfl⟩
  | cartReset =>
    obtain rfl := Host.Outcome.next.inj h
    rw [withCart_of_eq cartridgeReset_eq]
    exact ⟨rfl, rfl, rfl⟩
  | scanline =>
    obtain rfl := Host.Outcome.next.inj h
    rw [withCart_of_eq cartridgeScanline_eq]
    exact ⟨rfl, rfl, rfl⟩
  | irqClear =>
    obtain rfl := Host.Outcome.next.inj h
    rw [withCart_of_eq cartridgeIrqClear_eq]
    exact ⟨rfl, rfl, rfl⟩
  | _ => cases hc

theorem busReset_p (s : State) : (busReset s).p = 0x20#8 := by simp [busReset, cpuReset]

theorem busReset_ram (s : State) : (busReset s).ram = s.ram := by simp [busReset, cpuReset]

theorem busReset_cart (s : State) : (busReset s).cart = s.cart := by simp [busReset, cpuReset]

theorem interruptEntry_p (vec : Word) (latency : Byte) (s : State) :
    (interruptEntry vec latency s).p = enteredStatus s.p := by simp [interruptEntry, enteredStatus]

theorem interruptEntry_cart (vec : Word) (latency : Byte) (s : State) :
    (interruptEntry vec latency s).cart = s.cart := by simp [interruptEntry]

/-- A masked `irq()` does nothing (R303). -/
theorem cpuIrq_masked {s : State} (h : getFlag .interruptDisable s.p = true) : cpuIrq s = s := if_pos h

theorem cpuIrq_taken {s : State} (h : getFlag .interruptDisable s.p = false) :
    cpuIrq s = interruptEntry 0xFFFE#16 7#8 s := by simp [cpuIrq, h]

theorem cpuIrq_p (s : State) :
    (cpuIrq s).p = if getFlag .interruptDisable s.p then s.p else enteredStatus s.p := by
  cases h : getFlag .interruptDisable s.p with
  | true => rw [cpuIrq_masked h]; rfl
  | false => rw [cpuIrq_taken h]; exact interruptEntry_p _ _ s

theorem cpuIrq_cart (s : State) : (cpuIrq s).cart = s.cart := by
  cases h : getFlag .interruptDisable s.p with
  | true => rw [cpuIrq_masked h]
  | false => rw [cpuIrq_taken h, interruptEntry_cart]

/-- A load, successful or not, leaves the CPU and RAM alone (R278, R279). -/
theorem driverLoad_frame (im : RomImage) (s : State) : (driverLoad im s).p = s.p ∧ (driverLoad im s).ram = s.ram := by
  unfold driverLoad
  cases loadImage im <;> exact ⟨rfl, rfl⟩

/-- A picture-side write leaves the CPU and RAM alone (R291). -/
theorem picturePpuWrite_frame (a : PicAddr) (v : Byte) (s : State) :
    (picturePpuWrite a v s).p = s.p ∧ (picturePpuWrite a v s).ram = s.ram := by
  rw [picturePpuWrite_eq]
  exact ⟨rfl, rfl⟩

/-! ## A step: one system clock, or one call -/

/-- The next step is one system clock: the driver's call, or no call pending (log 1). -/
def clocksNext (s : State) : Prop := s.pending = [] ∨ ∃ rest, s.pending = .clock :: rest

/-- A step is one system clock, or one other call, with the call taken off `pending`. -/
theorem step_cases {s t : State} (h : step s = .next t) :
    (clocksNext s ∧ ClockFrame s t) ∨
    ∃ c rest, s.pending = c :: rest ∧ c ≠ .clock ∧ runCall c { s with pending := rest } = .next t := by
  cases hp : s.pending with
  | nil => exact .inl ⟨.inl hp, busClock_frame (by rw [← step_of_idle hp, h])⟩
  | cons c rest =>
    rw [step_of_call hp] at h
    by_cases hc : c = .clock
    · subst hc
      obtain ⟨hcart, hflags, hram⟩ := busClock_frame (show busClock { s with pending := rest } = .next t from h)
      -- the opcode read does not look at `pending`
      have hread := (memRead_of_same s.pc (s := pictureClock s) (t := pictureClock { s with pending := rest })
        rfl rfl rfl rfl).1
      refine .inl ⟨.inr ⟨rest, hp⟩, hcart, hflags, hram.imp_right ?_⟩
      rintro ⟨hslot, hdma, hcycles, hop, hstore⟩
      exact ⟨hslot, hdma, hcycles, hop.trans hread, hstore⟩
    · exact .inr ⟨c, rest, rfl, hc, h⟩

/-! ## The status byte -/

/-- What a step can do to the status byte: a reset and a taken interrupt write it, every other step keeps all flags but
Z and N (R26, R28-R32). -/
inductive StatusStep (s t : State) : Prop where
  | reset {rest : List EnvCall} (hp : s.pending = .reset :: rest) (h : t.p = 0x20#8)
  | entry {rest : List EnvCall}
      (hp : s.pending = .nmi :: rest ∨ (s.pending = .irq :: rest ∧ getFlag .interruptDisable s.p = false))
      (h : t.p = enteredStatus s.p)
  | kept (hreset : ∀ rest, s.pending ≠ .reset :: rest) (hnmi : ∀ rest, s.pending ≠ .nmi :: rest)
      (hirq : ∀ rest, s.pending = .irq :: rest → getFlag .interruptDisable s.p = true)
      (h : ∀ f : Flag, f ≠ .zero → f ≠ .negative → getFlag f t.p = getFlag f s.p)

/-- A call other than a reset and the interrupts, that leaves the status byte alone. -/
theorem StatusStep.of_p_eq {s t : State} {c : EnvCall} {rest : List EnvCall} (hp : s.pending = c :: rest)
    (hreset : c ≠ .reset) (hnmi : c ≠ .nmi) (hirq : c ≠ .irq) (h : t.p = s.p) : StatusStep s t :=
  .kept (by simp [hp, hreset]) (by simp [hp, hnmi]) (by simp [hp, hirq]) (by simp [h])

theorem step_status {s t : State} (h : step s = .next t) : StatusStep s t := by
  rcases step_cases h with ⟨hclock, hframe⟩ | ⟨c, rest, hp, hclock, hcall⟩
  · rcases hclock with hp | ⟨rest, hp⟩ <;> exact .kept (by simp [hp]) (by simp [hp]) (by simp [hp]) hframe.flags
  · cases c with
    | clock => exact absurd rfl hclock
    | reset =>
      obtain rfl := Host.Outcome.next.inj hcall
      exact .reset hp (busReset_p _)
    | nmi =>
      obtain rfl := Host.Outcome.next.inj hcall
      exact .entry (.inl hp) (interruptEntry_p _ _ _)
    | irq =>
      have hirq : t.p = if getFlag .interruptDisable s.p then s.p else enteredStatus s.p := by
        obtain rfl := Host.Outcome.next.inj hcall
        exact cpuIrq_p _
      cases hi : getFlag .interruptDisable s.p with
      | true => exact .kept (by simp [hp]) (by simp [hp]) (fun _ _ => hi) (by simp [hirq, hi])
      | false => exact .entry (.inr ⟨hp, hi⟩) (by simp [hirq, hi])
    | load im =>
      obtain rfl := Host.Outcome.next.inj hcall
      exact .of_p_eq hp nofun nofun nofun (driverLoad_frame im _).1
    | ppuWrite a v =>
      obtain rfl := Host.Outcome.next.inj hcall
      exact .of_p_eq hp nofun nofun nofun (picturePpuWrite_frame a v _).1
    | busWrite a v =>
      obtain rfl := Host.Outcome.next.inj hcall
      exact .of_p_eq hp nofun nofun nofun (memWrite_p _ a v)
    | _ => exact .of_p_eq hp nofun nofun nofun (runCall_quiet rfl hcall).1

/-- Settles O53: a reset and a taken interrupt set the Unused flag, every other step keeps it. -/
theorem stepKeepsUnusedSet : Obligations.StepKeepsUnusedSet := by
  unfold Obligations.StepKeepsUnusedSet unusedSet
  refine ⟨fun s t hs h => ?_, fun s t rest hp h => ?_, rfl⟩
  · cases step_status h with
    | reset _ e => rw [e, getFlag_resetStatus]; rfl
    | entry _ e => rw [e, getFlag_enteredStatus]; rfl
    | kept _ _ _ e => rw [e .unused nofun nofun, hs]
  · cases step_status h with
    | reset _ e => rw [e, getFlag_resetStatus]; rfl
    | entry _ e => rw [e, getFlag_enteredStatus]; rfl
    | kept hreset hnmi hirq _ =>
      rcases hp with hp | hp | ⟨hp, hi⟩
      · exact absurd hp (hreset rest)
      · exact absurd hp (hnmi rest)
      · exact absurd (hirq rest hp) (by simp [hi])

/-- Settles O56: a reset and interrupt entry leave the four flags 0, every other step keeps them. -/
theorem stepKeepsUntouchedFlagsClear : Obligations.StepKeepsUntouchedFlagsClear := by
  unfold Obligations.StepKeepsUntouchedFlagsClear untouchedFlagsClear
  intro s t hs h
  cases step_status h with
  | reset _ e => simp [e, getFlag_resetStatus]
  | entry _ e =>
    simp only [Bool.and_eq_true, Bool.not_eq_true'] at hs
    obtain ⟨⟨⟨hcarry, hdecimal⟩, -⟩, hoverflow⟩ := hs
    simp [e, getFlag_enteredStatus, hcarry, hdecimal, hoverflow]
  | kept _ _ _ e =>
    rw [e .carry nofun nofun, e .decimal nofun nofun, e .breakSignal nofun nofun, e .overflow nofun nofun, hs]

/-- Settles O57: a step by its next call. -/
theorem maskSetUntilReset : Obligations.MaskSetUntilReset := by
  unfold Obligations.MaskSetUntilReset
  refine ⟨fun s t h => ?_, rfl⟩
  have masked : ∀ rest, s.pending = .irq :: rest → getFlag .interruptDisable s.p = true →
      t = { s with pending := rest } := by
    intro rest hp hi
    have ht := h.symm.trans (step_of_call hp)
    exact (Host.Outcome.next.inj ht).trans (cpuIrq_masked hi)
  cases step_status h with
  | reset hp e =>
    have hclear : getFlag .interruptDisable t.p = false := by rw [e, getFlag_resetStatus]; rfl
    refine ⟨?_, ?_, masked, ?_, fun _ _ => hclear, fun _ hne => absurd hp (hne _)⟩ <;> simp [hp]
  | entry hp e =>
    have hset : getFlag .interruptDisable t.p = true := by rw [e, getFlag_enteredStatus]; rfl
    refine ⟨?_, fun _ _ => hset, masked, fun _ _ => hset, ?_, fun _ _ => hset⟩ <;>
      rcases hp with hp | ⟨hp, -⟩ <;> simp [hp]
  | kept hreset hnmi hirq e =>
    have hkept := e .interruptDisable nofun nofun
    exact ⟨fun _ => hkept, fun rest hp => hkept.trans (hirq rest hp), masked, fun rest hp => absurd hp (hnmi rest),
      fun rest hp => absurd hp (hreset rest), fun hi _ => hkept.trans hi⟩

/-! ## RAM -/

/-- Settles O59: a clock that does not fetch a store keeps RAM, and so does every call but the three. -/
theorem ramChangesOnlyByStores : Obligations.RamChangesOnlyByStores := by
  unfold Obligations.RamChangesOnlyByStores
  intro s t h hne
  rcases step_cases h with ⟨hclock, hframe⟩ | ⟨c, rest, hp, hclock, hcall⟩
  · exact .inl ⟨hclock, hframe.ram.resolve_left hne⟩
  · refine .inr ?_
    cases c with
    | clock => exact absurd rfl hclock
    | irq =>
      cases hi : getFlag .interruptDisable s.p with
      | true =>
        obtain rfl := Host.Outcome.next.inj hcall
        exact absurd (congrArg State.ram (cpuIrq_masked (s := { s with pending := rest }) hi)) hne
      | false => exact .inl ⟨rest, hp, rfl⟩
    | nmi => exact .inr (.inl ⟨rest, hp⟩)
    | busWrite a v =>
      obtain rfl := Host.Outcome.next.inj hcall
      rcases memWrite_ram_cases { s with pending := rest } a v with hkeep | ⟨ha, -⟩
      · exact absurd hkeep hne
      · exact .inr (.inr ⟨a, v, rest, hp, ha⟩)
    | reset =>
      obtain rfl := Host.Outcome.next.inj hcall
      exact absurd (busReset_ram _) hne
    | load im =>
      obtain rfl := Host.Outcome.next.inj hcall
      exact absurd (driverLoad_frame im _).2 hne
    | ppuWrite a v =>
      obtain rfl := Host.Outcome.next.inj hcall
      exact absurd (picturePpuWrite_frame a v _).2 hne
    | _ => exact absurd (runCall_quiet rfl hcall).2.1 hne

/-! ## The cartridge -/

/-- `d` holds the ROM of `c`: everything a load writes, but for the cells of a CHR-RAM (R48, R281, R289). -/
def SameRom (c d : Cartridge) : Prop :=
  d.prg = c.prg ∧ d.prgCount = c.prgCount ∧ d.chrCount = c.chrCount ∧ d.mapperId = c.mapperId ∧
    d.mirroring = c.mirroring ∧ d.mapper = c.mapper ∧ (chrIsRam c = false → d.chr = c.chr)

theorem SameRom.refl (c : Cartridge) : SameRom c c := ⟨rfl, rfl, rfl, rfl, rfl, rfl, fun _ => rfl⟩

/-- A picture-side write stores to CHR-RAM only (R291, R292). -/
theorem sameRom_ppuWrite (c : Cartridge) (a : PicAddr) (v : Byte) : SameRom c (cartridgePpuWrite c a v).1 := by
  by_cases ha : a ≤ 0x1FFF#14
  · cases hr : chrIsRam c with
    | true =>
      rw [cartridgePpuWrite_chrRam ha hr]
      exact ⟨rfl, rfl, rfl, rfl, rfl, rfl, fun hrom => Bool.noConfusion (hr.symm.trans hrom)⟩
    | false => rw [cartridgePpuWrite_chrRom ha hr]; exact .refl c
  · rw [cartridgePpuWrite_high (BitVec.not_le.mp ha)]; exact .refl c

theorem picturePpuWrite_cart (a : PicAddr) (v : Byte) {s : State} {c : Cartridge} (hc : s.cart = some c) :
    (picturePpuWrite a v s).cart = some (cartridgePpuWrite c a v).1 := by
  rw [picturePpuWrite_eq, hc]
  rfl

/-- Settles O45: only `load` and `ppu_write` reach the cartridge, and the write is to CHR-RAM. -/
theorem cartridgeFixedAfterLoad : Obligations.CartridgeFixedAfterLoad := by
  unfold Obligations.CartridgeFixedAfterLoad
  intro s t c hc h hload
  have kept : t.cart = s.cart → ∃ d, t.cart = some d ∧ SameRom c d := fun e => ⟨c, e.trans hc, .refl c⟩
  rcases step_cases h with ⟨-, hframe⟩ | ⟨call, rest, hp, hclock, hcall⟩
  · exact kept hframe.cart
  · cases call with
    | clock => exact absurd rfl hclock
    | load im => exact absurd hp (hload im rest)
    | ppuWrite a v =>
      obtain rfl := Host.Outcome.next.inj hcall
      exact ⟨_, picturePpuWrite_cart a v hc, sameRom_ppuWrite c a v⟩
    | reset =>
      obtain rfl := Host.Outcome.next.inj hcall
      exact kept (busReset_cart _)
    | irq =>
      obtain rfl := Host.Outcome.next.inj hcall
      exact kept (cpuIrq_cart _)
    | nmi =>
      obtain rfl := Host.Outcome.next.inj hcall
      exact kept (interruptEntry_cart _ _ _)
    | busWrite a v =>
      obtain rfl := Host.Outcome.next.inj hcall
      exact kept (memWrite_cart _ a v)
    | _ => exact kept (runCall_quiet rfl hcall).2.2

end Sys2Proof.Machine
end

section
/-!
SUPPORT. The bus decode (20_memory R67-R74): the bus read and the bus write by address window, RAM read after a RAM
write, what every bus read gives after a store instruction, and that a bus access does not look at `pending`; and the
proofs of `Obligations.StoreThenRead`, `Obligations.RamReadsBack`, `Obligations.BusReadDecode` and
`Obligations.BusWriteDecode`.
-/

namespace Sys2Proof.Machine

/-! ## RAM and its mirrors (R69) -/

theorem ramCell_eq_mod (a : Word) : ramCell a = a.toNat % 0x800 := by
  unfold ramCell
  rw [BitVec.toNat_and]
  exact Nat.and_two_pow_sub_one_eq_mod a.toNat 11

theorem ramCell_mask (a : Word) : ramCell (a &&& 0x07FF#16) = ramCell a := by
  unfold ramCell
  rw [BitVec.and_assoc, BitVec.and_self]

theorem ramMask_le (a : Word) : a &&& 0x07FF#16 ≤ 0x1FFF#16 := by
  have hlt : (a &&& 0x07FF#16).toNat < ramSize := ramCell_lt a
  unfold ramSize at hlt
  bv_omega

theorem sameRamCell_iff {a b : Word} :
    sameRamCell a b = true ↔ a ≤ 0x1FFF#16 ∧ b ≤ 0x1FFF#16 ∧ ramCell a = ramCell b := by
  simp [sameRamCell, and_assoc]

/-- A RAM read after a RAM write: the byte written at every mirror of the cell, else what the cell held. -/
theorem memRead_memWrite_ram {a b : Word} (ha : a ≤ 0x1FFF#16) (hb : b ≤ 0x1FFF#16) (v : Byte) (s : State) :
    (memRead b (memWrite a v s)).1 = if ramCell a = ramCell b then v else (memRead b s).1 := by
  rw [memWrite_ram s v ha, memRead_ram _ hb, memRead_ram s hb]
  exact cellsRead_write_ram (ramCell a) (ramCell b) v s.ram

/-- Settles O31: a RAM access is an access to the cell of the masked address. -/
theorem ramReadsBack : Obligations.RamReadsBack := by
  unfold Obligations.RamReadsBack
  intro s a v ha
  refine ⟨memRead_ram s ha, memWrite_ram s v ha, ?_, ?_⟩
  · rw [memRead_memWrite_ram ha ha, if_pos rfl]
  · rw [memRead_ram s ha, memRead_ram s (ramMask_le a), ramCell_mask]

/-! ## The other windows (R70-R73) -/

theorem inSoundWindow_iff {a : Word} :
    inSoundWindow a = true ↔ 0x4000#16 ≤ a ∧ a ≤ 0x4015#16 ∧ a ≠ 0x4014#16 := by
  simp only [inSoundWindow, Bool.or_eq_true, Bool.and_eq_true, decide_eq_true_eq, beq_iff_eq]
  bv_omega

theorem inSoundWindow_unowned {a : Word} (h : a = 0x4014#16 ∨ 0x4016#16 ≤ a) : inSoundWindow a = false := by
  rw [Bool.eq_false_iff, ne_eq, inSoundWindow_iff]
  bv_omega

section
variable {a : Word}

theorem pictureWindow_bounds (hlo : 0x2000#16 ≤ a) (hhi : a ≤ 0x3FFF#16) : ¬ a ≤ 0x1FFF#16 ∧ ¬ 0x8000#16 ≤ a := by
  bv_omega

theorem soundWindow_bounds (h : inSoundWindow a = true) :
    ¬ a ≤ 0x1FFF#16 ∧ ¬ a ≤ 0x3FFF#16 ∧ ¬ 0x8000#16 ≤ a := by
  obtain ⟨hlo, hhi, -⟩ := inSoundWindow_iff.1 h
  bv_omega

theorem unowned_bounds (h : a = 0x4014#16 ∨ 0x4016#16 ≤ a) : ¬ a ≤ 0x1FFF#16 ∧ ¬ a ≤ 0x3FFF#16 := by
  bv_omega

variable (s : State) (v : Byte)

theorem memRead_picture (hlo : 0x2000#16 ≤ a) (hhi : a ≤ 0x3FFF#16) :
    memRead a s = (Config.pictureByte s.picture (a.setWidth 3), pictureCall (.readRegister (a.setWidth 3)) s) := by
  obtain ⟨hram, hcart⟩ := pictureWindow_bounds hlo hhi
  simp [memRead, cartCpuRead_low s hcart, hram, hhi]

theorem memWrite_picture (hlo : 0x2000#16 ≤ a) (hhi : a ≤ 0x3FFF#16) :
    memWrite a v s = pictureCall (.writeRegister (a.setWidth 3) v) s := by
  obtain ⟨hram, hcart⟩ := pictureWindow_bounds hlo hhi
  simp [memWrite, cartCpuWrite_low s v hcart, hram, hhi]

theorem memRead_sound (h : inSoundWindow a = true) :
    memRead a s = (Config.soundByte s.sound a, soundCall (.readRegister a) s) := by
  obtain ⟨hram, hpicture, hcart⟩ := soundWindow_bounds h
  simp [memRead, cartCpuRead_low s hcart, hram, hpicture, h]

theorem memWrite_sound (h : inSoundWindow a = true) : memWrite a v s = soundCall (.writeRegister a v) s := by
  obtain ⟨hram, hpicture, hcart⟩ := soundWindow_bounds h
  simp [memWrite, cartCpuWrite_low s v hcart, hram, hpicture, h]

/-- A read nobody owns, the trigger's address among them, gives 0x00 and has no side effect (R72, R73; D18-D20). -/
theorem memRead_unowned (hclaim : cartCpuRead a s = none) (h : a = 0x4014#16 ∨ 0x4016#16 ≤ a) :
    memRead a s = (0x00#8, s) := by
  obtain ⟨hram, hpicture⟩ := unowned_bounds h
  simp [memRead, hclaim, hram, hpicture, inSoundWindow_unowned h]

/-- A write nobody owns has no effect (R73; D18-D20). -/
theorem memWrite_unowned (hclaim : cartCpuWrite a v s = false) (h : 0x4016#16 ≤ a) : memWrite a v s = s := by
  obtain ⟨hram, hpicture⟩ := unowned_bounds (.inr h)
  have htrigger : a ≠ 0x4014#16 := by bv_omega
  simp [memWrite, hclaim, hram, hpicture, inSoundWindow_unowned (.inr h), htrigger]

end

/-! ## The driver's own accesses (R341; log 11) -/

theorem memRead_setPending (a : Word) (rest : List EnvCall) (s : State) :
    memRead a { s with pending := rest } = ((memRead a s).1, { s with
      pending := rest, picture := (memRead a s).2.picture, sound := (memRead a s).2.sound }) :=
  Prod.ext_iff.2 (memRead_of_same a rfl rfl rfl rfl)

theorem memWrite_setPending (a : Word) (v : Byte) (rest : List EnvCall) (s : State) :
    memWrite a v { s with pending := rest } = { memWrite a v s with pending := rest } := by
  rw [memWrite_of_same (s := s) (t := { s with pending := rest }) a v rfl rfl rfl rfl rfl rfl rfl]
  simp

/-- Settles O32: the bus read window by window; the driver's step is the read with the call taken. -/
theorem busReadDecode : Obligations.BusReadDecode := by
  unfold Obligations.BusReadDecode
  refine ⟨fun s a hclaim => ⟨fun ha => ?_, fun ⟨hlo, hhi⟩ => memRead_picture s hlo hhi,
    fun ha => memRead_sound s (inSoundWindow_iff.2 ha), memRead_unowned s hclaim⟩, fun s a rest hp => ?_⟩
  · rw [memRead_ram s ha, ramCell_eq_mod]
  · rw [step_of_call hp, runCall, driverRead, memRead_setPending]
    rfl

/-- Settles O33: the bus write window by window; the driver's step is the write with the call taken. -/
theorem busWriteDecode : Obligations.BusWriteDecode := by
  unfold Obligations.BusWriteDecode
  refine ⟨fun s a v hclaim => ⟨fun ha => ?_, fun ⟨hlo, hhi⟩ => memWrite_picture s v hlo hhi,
    fun ha => memWrite_sound s v (inSoundWindow_iff.2 ha), fun ha => ?_, memWrite_unowned s v hclaim⟩,
    fun s a v rest hp => ?_⟩
  · rw [memWrite_ram s v ha, ramCell_eq_mod]
    rfl
  · rw [ha]
    exact memWrite_trigger s v
  · rw [step_of_call hp, runCall, driverWrite, memWrite_setPending]

/-! ## Store instructions (R200) -/

theorem handler_store {i : Instr} {r : Reg} : i.descriptor.handler = .store r → i.descriptor.mode ≠ .imm := by
  cases i <;> nofun

theorem operandOf_store {i : Instr} {r : Reg} (h : i.descriptor.handler = .store r) (v : Byte) :
    operandOf i ≠ .imm v := fun himm =>
  handler_store h (by rw [← operandMode_operandOf, himm, operandMode])

/-- After a store instruction every bus read gives what it gives after the one bus write of the register to the
effective address: PC and the counters are all that is different. -/
theorem exec_store_memRead {i : Instr} {r : Reg} (h : i.descriptor.handler = .store r) (s : State) :
    ∃ t, exec i s = .next t ∧
      ∀ b, (memRead b t).1 = (memRead b (memWrite (effectiveAddress i s) (getReg r s) s)).1 := by
  have himm := operandOf_store h
  have haddr : effectiveAddress i s = (resolve (operandOf i) s).addr := (resolve_startInstr _ _ _ s himm).1
  rw [exec_store h, storeInstr_eq r _ _ s (operandOf_not_ind i) himm, haddr]
  refine ⟨_, rfl, fun b => (memRead_of_same b ?_ ?_ ?_ ?_).1⟩ <;> simp

/-- Settles O25: the store's bus write, then a RAM read at a mirror of its cell. -/
theorem storeThenRead : Obligations.StoreThenRead := by
  unfold Obligations.StoreThenRead
  intro i r s b hstore hcell
  obtain ⟨hb, haddr, hsame⟩ := sameRamCell_iff.1 hcell
  obtain ⟨t, ht, hread⟩ := exec_store_memRead hstore s
  exact ⟨t, ht, by rw [hread, memRead_memWrite_ram haddr hb, if_pos hsame.symm]⟩

end Sys2Proof.Machine
end

section
/-!
SUPPORT. The decoder and the encoder (30_encoding R100-R108): the instruction of an opcode byte and a list of operand
bytes (`instrOfBytes`), what it encodes to, what `decode` gives on every list with an opcode byte, and the proofs of
`Obligations.DecodeOfEncode`, `Obligations.EncodeOfDecode`, `Obligations.EveryOpcodeDecodes` and
`Obligations.WrittenWordsDecode`.
-/

namespace Sys2Proof.Machine

/-! ## An opcode byte with its operand bytes -/

/-- The instruction of an opcode byte and its operand bytes, the operand bytes it does not have read as 0x00. -/
def instrOfBytes (op : Byte) (operands : List Byte) : Instr :=
  instrOf op (operands.getD 0 0#8) (operands.getD 1 0#8)

theorem operandCount_le_two (op : Byte) : operandCount op ≤ 2 := by
  unfold operandCount
  cases (DESC op).mode <;> decide

theorem take_getD_of_length {n : Nat} {operands : List Byte} (hn : n ≤ 2) (hlen : operands.length = n) :
    [operands.getD 0 0#8, operands.getD 1 0#8].take n = operands := by
  match operands, hlen with
  | [], rfl | [_], rfl | [_, _], rfl => rfl
  | _ :: _ :: _ :: _, rfl => simp at hn

theorem encode_instrOfBytes_take (op : Byte) (operands : List Byte) :
    encode (instrOfBytes op operands) =
      op :: [operands.getD 0 0#8, operands.getD 1 0#8].take (operandCount op) := by
  obtain ⟨-, -, -, henc⟩ := instrOf_spec op (operands.getD 0 0#8) (operands.getD 1 0#8)
  exact henc

/-- Operand bytes as many as the opcode asks for are kept whole and in order by the instruction (R101, R102). -/
theorem encode_instrOfBytes {op : Byte} {operands : List Byte} (hlen : operands.length = operandCount op) :
    encode (instrOfBytes op operands) = op :: operands := by
  rw [encode_instrOfBytes_take, take_getD_of_length (operandCount_le_two op) hlen]

@[simp] theorem opcode_instrOfBytes (op : Byte) (operands : List Byte) : (instrOfBytes op operands).opcode = op := by
  obtain ⟨-, hop, -⟩ := instrOf_spec op (operands.getD 0 0#8) (operands.getD 1 0#8)
  exact hop

@[simp] theorem descriptor_instrOfBytes (op : Byte) (operands : List Byte) :
    (instrOfBytes op operands).descriptor = DESC op := by
  obtain ⟨hdesc, -⟩ := instrOf_spec op (operands.getD 0 0#8) (operands.getD 1 0#8)
  exact hdesc

theorem wellFormed_instrOfBytes {op : Byte} {operands : List Byte} (hlen : operands.length = operandCount op) :
    (instrOfBytes op operands).wellFormed = true := by
  simp [Instr.wellFormed, wellFormedBytes, encode_instrOfBytes hlen, hlen]

/-- An instruction is read off the table at its own opcode and operand bytes (R103, R106, R107): a two-byte operand
comes back from its low and high byte (R63), a one-byte operand as it stands. -/
theorem instrOfBytes_encode (i : Instr) : instrOfBytes i.opcode (encode i).tail = i := by
  cases i
  case ldaAbs addr | ldaAbx addr | ldaAby addr | ldxAbs addr | ldxAby addr | ldyAbs addr | ldyAbx addr | staAbs addr
      | staAbx addr | staAby addr | stxAbs addr | styAbs addr =>
    conv_rhs => rw [← wordOf_high_low addr]
    rfl
  all_goals rfl

theorem exists_instrOfBytes (i : Instr) :
    ∃ op operands, operands.length = operandCount op ∧ instrOfBytes op operands = i := by
  refine ⟨i.opcode, (encode i).tail, ?_, instrOfBytes_encode i⟩
  have henc := encode_instrOfBytes_take i.opcode (encode i).tail
  rw [instrOfBytes_encode] at henc
  rw [henc, List.tail_cons, List.length_take]
  exact Nat.min_eq_left (operandCount_le_two i.opcode)

/-! ## The decoder -/

/-- The decoder splits off as many operand bytes as the opcode asks for, and refuses only a list without them (R100,
R108). -/
theorem decode_cons (op : Byte) (tail : List Byte) :
    decode (op :: tail) = if operandCount op ≤ tail.length
      then .ok (instrOfBytes op (tail.take (operandCount op)), tail.drop (operandCount op))
      else .error (.truncated op) := by
  have hle := operandCount_le_two op
  dsimp only [decode]
  generalize operandCount op = n at hle
  match n, hle, tail with
  | 0, _, _ => simp [instrOfBytes]
  | 1, _, [] | 2, _, [] | 2, _, [_] => rfl
  | 1, _, _ :: _ | 2, _, _ :: _ :: _ => simp [instrOfBytes]

/-! ## The obligations -/

/-- Settles O2: the instruction is the one of its own opcode and operand bytes, which the decoder reads back. -/
theorem decodeOfEncode : Obligations.DecodeOfEncode := by
  unfold Obligations.DecodeOfEncode
  intro i rest
  obtain ⟨op, operands, hlen, rfl⟩ := exists_instrOfBytes i
  rw [encode_instrOfBytes hlen, List.cons_append, decode_cons, if_pos (by simp [← hlen]), ← hlen, List.take_left,
    List.drop_left]

/-- Settles O3: a list that decodes is not too short, so it is an opcode byte, its operand bytes and the rest. -/
theorem encodeOfDecode : Obligations.EncodeOfDecode := by
  unfold Obligations.EncodeOfDecode
  intro bs rest i hdecode
  cases bs with
  | nil => exact nomatch hdecode
  | cons op tail =>
    rw [decode_cons] at hdecode
    split at hdecode
    next hle =>
      cases hdecode
      rw [encode_instrOfBytes (List.length_take_of_le hle), List.cons_append, List.take_append_drop]
    next => exact nomatch hdecode

/-- Settles O4: the opcode byte with its operand bytes is a well-formed instruction. -/
theorem everyOpcodeDecodes : Obligations.EveryOpcodeDecodes := by
  unfold Obligations.EveryOpcodeDecodes
  intro op tail hle
  exact ⟨_, _, (decode_cons op tail).trans (if_pos hle), opcode_instrOfBytes op _,
    wellFormed_instrOfBytes (List.length_take_of_le hle)⟩

/-- Settles O1: each of the words is an encoded instruction with what follows it. -/
theorem writtenWordsDecode : Obligations.WrittenWordsDecode :=
  ⟨decodeOfEncode (.ldaImm 0x80#8) [], decodeOfEncode (.ldaAbx 0x02FF#16) [],
    decodeOfEncode (.ldxZpy 0x80#8) [0xEA#8], decodeOfEncode (.ldyAbx 0x0780#16) [],
    decodeOfEncode (.staAbs 0x4014#16) [], decodeOfEncode (.stxZpy 0x80#8) [], decodeOfEncode (.styZpx 0x10#8) [],
    decodeOfEncode (.bne 0xFB#8) [], decodeOfEncode .unimp4C [0xA9#8, 0x80#8]⟩

end Sys2Proof.Machine
end

section
/-!
SUPPORT. The fetch tick (40_cpu_tick_engine R130-R137): the fetch as one run of bus reads from PC (`fetch_eq`), a fetch
as what `decode` gives on the bytes read (`fetch_of_decode`), the resolver at PC as the resolver on the fetched operand
bytes (`resolveAt_startInstr`), and the proofs of `Obligations.TickMatchesReference`, `Obligations.BranchCosts`,
`Obligations.EveryStepCompletes` and `Obligations.StepRunsDecodedInstruction`.
-/

namespace Sys2Proof.Machine

/-! ## The fetch as a run of bus reads (R100, R108, R131) -/

theorem readBytes_length (n : Nat) (a : Word) (s : State) : (readBytes n a s).1.length = n := by
  induction n generalizing a s with
  | zero => rfl
  | succ n ih => rw [readBytes, List.length_cons, ih]

/-- The bus reads of the operand bytes, after the one of the opcode byte: the bytes, and the state after them. -/
def readOperandBytes (s : State) : List Byte × State :=
  readBytes (operandCount (memRead s.pc s).1) (s.pc + 1#16) (memRead s.pc s).2

/-- The fetch reads the opcode byte and as many operand bytes as it asks for, and takes the instruction they make. -/
theorem fetch_eq (s : State) :
    fetch s = (instrOfBytes (memRead s.pc s).1 (readOperandBytes s).1, (readOperandBytes s).2) := by
  have hle := operandCount_le_two (memRead s.pc s).1
  have hnext : s.pc + 1#16 + 1#16 = s.pc + 2#16 := by bv_omega
  unfold fetch readOperandBytes
  dsimp only
  generalize operandCount (memRead s.pc s).1 = n at hle
  match n, hle with
  | 0, _ | 1, _ => rfl
  | 2, _ => simp [readBytes, instrOfBytes, hnext]

/-- Bytes read at PC that are one instruction and nothing more are what the fetch reads and decodes (R131). -/
theorem fetch_of_decode {s t : State} {n : Nat} {bs : List Byte} {i : Instr} (hread : readBytes n s.pc s = (bs, t))
    (hdecode : decode bs = .ok (i, [])) : fetch s = (i, t) := by
  cases n with
  | zero =>
    cases hread
    exact nomatch hdecode
  | succ n =>
    cases hread
    rw [decode_cons, readBytes_length] at hdecode
    split at hdecode
    next hle =>
      obtain ⟨hi, hrest⟩ := Prod.mk.inj (Except.ok.inj hdecode)
      have hn : n = operandCount (memRead s.pc s).1 := by
        have hlen := List.drop_eq_nil_iff.1 hrest
        rw [readBytes_length] at hlen
        exact Nat.le_antisymm hlen hle
      rw [fetch_eq, readOperandBytes, ← hi, hn, List.take_of_length_le (readBytes_length _ _ _).le]
    next => exact nomatch hdecode

theorem operandOf_instrOfBytes (op : Byte) (operands : List Byte) :
    operandOf (instrOfBytes op operands) =
      operandFrom (DESC op).mode (operands.getD 0 0#8) (operands.getD 1 0#8) := by
  obtain ⟨-, -, ho, -⟩ := instrOf_spec op (operands.getD 0 0#8) (operands.getD 1 0#8)
  exact ho

theorem wellFormed_instr (i : Instr) : i.wellFormed = true := by
  obtain ⟨op, operands, hlen, rfl⟩ := exists_instrOfBytes i
  exact wellFormed_instrOfBytes hlen

/-! ## The resolver at PC (R150-R162)

`startInstr` only moves the CPU's registers, so a bus read after it is the bus read before it. -/

theorem setPc_startInstr (op : Byte) (len len' : Word) (s : State) :
    setPc (s.pc + len') (startInstr op len s) = startInstr op len' s := rfl

/-- A bus read changes nothing but the collaborators' histories (R74). -/
theorem memRead_snd_eq (a : Word) (s : State) :
    (memRead a s).2 = { s with picture := (memRead a s).2.picture, sound := (memRead a s).2.sound } :=
  (memRead_of_same a rfl rfl rfl rfl).2

theorem memRead_startInstr (a : Word) (op : Byte) (len : Word) (s : State) :
    memRead a (startInstr op len s) = ((memRead a s).1, startInstr op len (memRead a s).2) := by
  have hsame := memRead_of_same a (s := s) (t := startInstr op len s) rfl rfl rfl rfl
  refine Prod.ext hsame.1 (hsame.2.trans ?_)
  conv_rhs => rw [memRead_snd_eq]
  rfl

/-- Reading the next byte goes one byte further into the instruction (R131). -/
theorem nextByte_startInstr (op : Byte) (len : Word) (s : State) :
    nextByte (startInstr op len s) =
      ((memRead (s.pc + len) s).1, startInstr op (len + 1#16) (memRead (s.pc + len) s).2) := by
  rw [nextByte, startInstr_pc, memRead_startInstr, BitVec.add_assoc, ← setPc_startInstr op len (len + 1#16),
    memRead_snd_pc]

/-- Reading the next word goes two bytes further, the low byte's read first (R102). -/
theorem nextWord_startInstr (op : Byte) (len : Word) (s : State) :
    nextWord (startInstr op len s) =
      (wordOf (memRead (s.pc + len + 1#16) (memRead (s.pc + len) s).2).1 (memRead (s.pc + len) s).1,
        startInstr op (len + 2#16) (memRead (s.pc + len + 1#16) (memRead (s.pc + len) s).2).2) := by
  simp [nextWord, nextByte_startInstr, BitVec.add_assoc]

/-- The resolver run behind the opcode byte is the resolver run on the operand bytes read there, except in immediate
mode, which reads none (R152). -/
theorem resolveAt_startInstr {m : Mode} (himm : m ≠ .imm) (op : Byte) (s : State) :
    let operands := readBytes m.operandBytes (s.pc + 1#16) s
    let o := operandFrom m (operands.1.getD 0 0#8) (operands.1.getD 1 0#8)
    resolveAt m (startInstr op 1#16 s) = resolve o (startInstr op (instrLength o) operands.2) := by
  cases m with
  | imm => exact absurd rfl himm
  | imp => rfl
  | zp0 | zpx | zpy | rel | izx | izy =>
    simp only [resolveAt, nextByte_startInstr]
    rfl
  | abs | abx | aby | ind =>
    simp only [resolveAt, nextWord_startInstr]
    rfl

/-! ## The reference tick (R130) -/

/-- The opcode fetch of the pseudocode: the byte at PC, and PC one byte on (R130, R131). -/
theorem referenceFetch_eq (s : State) :
    referenceFetch s = ((memRead s.pc s).1, startInstr (memRead s.pc s).1 1#16 (memRead s.pc s).2) := by
  have hread := memRead_of_same s.pc (s := s) (t := { s with branchTaken := false, pageCrossed := false })
    rfl rfl rfl rfl
  simp only [referenceFetch, hread.1, hread.2]
  conv_rhs => rw [memRead_snd_eq]
  rfl

/-- The fetch arm after the resolver (R130): the handler on the resolver's result, then the cost. -/
def runDescriptor (d : Descriptor) (res : Resolved) : State :=
  let s := runHandler d.handler res.addr (setPageCrossed res.crossed res.state)
  setCycles (d.base + descriptorPenalty d s) s

theorem referenceExecute_eq (d : Descriptor) (s : State) :
    referenceExecute d s = runDescriptor d (resolveAt d.mode s) := rfl

/-- The load handler keeps the page-crossed flag its penalty reads (R134). -/
theorem loadReg_pageCrossed (r : Reg) (v : Byte) (s : State) : (loadReg r v s).pageCrossed = s.pageCrossed := by
  simp [loadReg]

theorem handler_of_imm {i : Instr} : i.descriptor.mode = .imm → ∃ r, i.descriptor.handler = .load r := by
  cases i
  case ldaImm | ldxImm | ldyImm => exact fun _ => ⟨_, rfl⟩
  all_goals nofun

theorem operandMode_imp {o : Operand} (h : operandMode o = .imp) : o = .imp := by
  cases o with
  | imp => rfl
  | _ => cases h

/-- Outside immediate mode, the meaning of an instruction is its descriptor's handler run on what the resolver gives for
its operand (R132-R135, R170, R200, R220, R230). -/
theorem exec_eq_runDescriptor {i : Instr} (himm : i.descriptor.mode ≠ .imm) (s : State) :
    exec i s = .next (runDescriptor i.descriptor
      (resolve (operandOf i) (startInstr i.opcode (instrLength (operandOf i)) s))) := by
  have hmode := operandMode_operandOf i
  unfold runDescriptor descriptorPenalty runHandler
  rcases exec_cases i s with ⟨r, hh, e⟩ | ⟨r, hh, e⟩ | ⟨c, d, hh, ho, e⟩ | ⟨hd, e⟩ <;> rw [e]
  · have hread : ∀ a t, readOperand (operandOf i) a t = memRead a t := by
      intro a t
      rcases readOperand_cases (operandOf i) a t with ⟨v, hv, -⟩ | hread
      · exact absurd (by rw [← hmode, hv]; rfl) himm
      · exact hread
    simp [loadInstr, loadFrom, hh, hmode, hread, loadReg_pageCrossed]
  · simp [storeInstr, storeTo, hh, hmode]
  · simp only [branchInstr, hh, ho]
    rfl
  · have ho : operandOf i = .imp := operandMode_imp (by rw [hmode, hd]; rfl)
    rw [hd, ho]
    rfl

/-- In immediate mode the fetch has read the operand byte that the handler of the pseudocode reads at the effective
address (R152, R172; log 15). -/
theorem loadInstr_imm_eq_reference {d : Descriptor} {r : Reg} (hmode : d.mode = .imm) (hload : d.handler = .load r)
    (op : Byte) (s : State) :
    loadInstr r op d.base (.imm (memRead (s.pc + 1#16) s).1) (memRead (s.pc + 1#16) s).2 =
      .next (referenceExecute d (startInstr op 1#16 s)) := by
  have hresolve : resolveAt .imm (startInstr op 1#16 s) = ⟨s.pc + 1#16, false, startInstr op 2#16 s⟩ := by
    rw [resolveAt, startInstr_pc, BitVec.add_assoc, setPc_startInstr]
    rfl
  have hread : memRead (s.pc + 1#16) (setPageCrossed false (startInstr op 2#16 s)) =
      ((memRead (s.pc + 1#16) s).1, startInstr op 2#16 (memRead (s.pc + 1#16) s).2) :=
    memRead_startInstr (s.pc + 1#16) op 2#16 s
  rw [referenceExecute_eq, hmode, hresolve]
  simp only [runDescriptor, descriptorPenalty, runHandler, hload, hmode, hread]
  rfl

/-- The fetch tick is the fetch arm of the pseudocode (R130). -/
theorem fetchTick_eq_reference (s : State) : fetchTick s = .next (referenceFetchTick s) := by
  obtain ⟨hop, hdesc⟩ := fetch_opcode s
  have hoperand : operandOf (fetch s).1 =
      operandFrom (DESC (memRead s.pc s).1).mode ((readOperandBytes s).1.getD 0 0#8)
        ((readOperandBytes s).1.getD 1 0#8) := by
    rw [fetch_eq, operandOf_instrOfBytes]
  have hstate : (fetch s).2 = (readOperandBytes s).2 := by rw [fetch_eq]
  rw [fetchTick, referenceFetchTick, referenceFetch_eq]
  by_cases himm : (DESC (memRead s.pc s).1).mode = .imm
  · -- immediate mode: a load, whose handler reads the operand byte
    obtain ⟨r, hload⟩ := handler_of_imm (hdesc ▸ himm)
    have hcount : operandCount (memRead s.pc s).1 = 1 := by rw [operandCount, himm]; rfl
    rw [exec_load hload, hop, hdesc, hoperand, hstate, himm, readOperandBytes, hcount]
    rw [hdesc] at hload
    rw [← loadInstr_imm_eq_reference himm hload, memRead_snd_pc]
    rfl
  · -- every other mode: the resolver reads the operand bytes at PC
    rw [exec_eq_runDescriptor (hdesc ▸ himm), hop, hdesc, hoperand, hstate, referenceExecute_eq,
      resolveAt_startInstr himm, memRead_snd_pc]
    rfl

/-! ## The obligations -/

/-- Settles O6: with the counter at zero the tick is the fetch tick. -/
theorem tickMatchesReference : Obligations.TickMatchesReference := by
  unfold Obligations.TickMatchesReference
  intro s hcycles
  rw [cpuTick, if_pos hcycles, fetchTick_eq_reference, onNext]

/-- Settles O19: the branch taken to its own page, to another page, and not taken. -/
theorem branchCosts : Obligations.BranchCosts := by
  unfold Obligations.BranchCosts
  intro i c s hbranch
  obtain ⟨d, -, hexec⟩ := exec_branch hbranch s
  rw [hexec, branchInstr_eq]
  refine ⟨_, rfl, rfl, ?_⟩
  cases htaken : condHolds c s.p with
  | true =>
    by_cases hpage : page (s.pc + 2#16 + sext d) = page (s.pc + 2#16) <;> simp [branchPenalty, hpage]
  | false => rfl

theorem busClock_completes (s : State) : ∃ t, busClock s = .next t := by
  obtain ⟨u, hu, -⟩ := busClock_cases s
  exact ⟨_, hu⟩

/-- Settles O60: a system clock answers a next state, and so does every call. -/
theorem everyStepCompletes : Obligations.EveryStepCompletes := by
  unfold Obligations.EveryStepCompletes
  intro s
  cases hp : s.pending with
  | nil => rw [step_of_idle hp]; exact busClock_completes s
  | cons c rest =>
    rw [step_of_call hp]
    cases c with
    | clock => exact busClock_completes _
    | _ => exact ⟨_, rfl⟩

/-- Settles O5: the clock's slot is a fetch tick, and its fetch reads the bytes that decode to `i`. -/
theorem stepRunsDecodedInstruction : Obligations.StepRunsDecodedInstruction := by
  unfold Obligations.StepRunsDecodedInstruction
  intro s t n bs i hidle hslot hdma hcycles hread hdecode
  have hfetch : fetch (pictureClock s) = (i, t) := fetch_of_decode hread hdecode
  obtain ⟨u, hexec, -⟩ := exec_frame i t
  refine ⟨wellFormed_instr i, u, hexec, ?_⟩
  have htick : cpuTick (pictureClock s) = .next (countTick u) := by
    rw [cpuTick, if_pos (show (pictureClock s).cycles = 0#8 from hcycles), fetchTick, hfetch, hexec, onNext]
  rw [step_of_idle hidle]
  simp [busClock, cpuSlot, hslot, hdma, htick, onNext]

end Sys2Proof.Machine
end

section
/-!
SUPPORT. The indexed and relative addressing modes (41_addressing_modes R154-R156, R158, R159): the word at PC as two bus
reads (`nextWord_eq`), the page crossing of an indexed address as the carry out of its low byte (`page_add_zext_bne`),
what the modes give at PC (`resolveAt_zpx`, `resolveAt_abx` and the others), and the proofs of
`Obligations.ZeroPageXWraps`, `Obligations.ZeroPageYWraps`, `Obligations.RelativeSignExtends` and
`Obligations.AbsoluteIndexed`.
-/

namespace Sys2Proof.Machine

/-! ## The operand word at PC (R102, R131) -/

/-- PC has no part in a bus read. -/
theorem memRead_setPc (a pc : Word) (s : State) :
    memRead a (setPc pc s) = ((memRead a s).1, setPc pc (memRead a s).2) := by
  have hsame := memRead_of_same a (s := s) (t := setPc pc s) rfl rfl rfl rfl
  refine Prod.ext hsame.1 (hsame.2.trans ?_)
  conv_rhs => rw [memRead_snd_eq]
  rfl

/-- The word at PC: two bus reads, the low byte's first, and PC behind them. -/
theorem nextWord_eq (s : State) :
    nextWord s =
      (wordOf (memRead (s.pc + 1#16) (memRead s.pc s).2).1 (memRead s.pc s).1,
        setPc (s.pc + 2#16) (memRead (s.pc + 1#16) (memRead s.pc s).2).2) := by
  have hpc : s.pc + 1#16 + 1#16 = s.pc + 2#16 := by bv_omega
  simp only [nextWord, nextByte, setPc_pc, memRead_setPc, hpc]
  rfl

/-! ## A byte as a word (R14) -/

theorem zext_toNat (b : Byte) : (zext b).toNat = b.toNat := BitVec.toNat_setWidth_of_le (by decide)

/-- The zero-extended sum of two bytes is the sum modulo 256: it stays in page zero (R154, R155). -/
theorem zext_add_toNat (b c : Byte) : (zext (b + c)).toNat = (b.toNat + c.toNat) % 256 := by
  rw [zext_toNat, BitVec.toNat_add]

/-- A byte with its top bit clear extends to itself, one with it set to the byte in the last page (R156). -/
theorem sext_toNat (b : Byte) : (sext b).toNat = if b.toNat < 0x80 then b.toNat else 0xFF00 + b.toNat := by
  rw [sext, BitVec.toNat_signExtend, ← zext, zext_toNat, BitVec.msb_eq_decide]
  by_cases hforward : b.toNat < 0x80
  · simp [hforward]
  · simp [hforward, Nat.add_comm]

/-! ## The page crossing (R158, R159, R162) -/

/-- Adding a byte to an address changes its page exactly when the low byte carries: the high byte is then one more
modulo 256. -/
theorem page_add_zext_bne (base : Word) (index : Byte) :
    (page (base + zext index) != page base) = carries base index := by
  have hindex := index.isLt
  have hbase := base.isLt
  rw [carries, Bool.eq_iff_iff, bne_iff_ne, decide_eq_true_iff, ne_eq, ← BitVec.toNat_inj, page, page, highByte_toNat,
    highByte_toNat, lowByte_toNat, BitVec.toNat_add, zext_toNat]
  omega

theorem indexed_crossed (base : Word) (index : Byte) (s : State) :
    (indexed base index s).crossed = carries base index := page_add_zext_bne base index

/-! ## The modes at PC -/

theorem resolveAt_zpx (s : State) :
    resolveAt .zpx s = ⟨zext ((memRead s.pc s).1 + s.x), false, setPc (s.pc + 1#16) (memRead s.pc s).2⟩ := by
  simp [resolveAt, resolve, nextByte]

theorem resolveAt_zpy (s : State) :
    resolveAt .zpy s = ⟨zext ((memRead s.pc s).1 + s.y), false, setPc (s.pc + 1#16) (memRead s.pc s).2⟩ := by
  simp [resolveAt, resolve, nextByte]

theorem resolveAt_rel (s : State) :
    resolveAt .rel s = ⟨sext (memRead s.pc s).1, false, setPc (s.pc + 1#16) (memRead s.pc s).2⟩ := rfl

theorem resolveAt_abx (s : State) : resolveAt .abx s = indexed (nextWord s).1 s.x (nextWord s).2 := by
  simp [resolveAt, resolve, nextWord_eq]

theorem resolveAt_aby (s : State) : resolveAt .aby s = indexed (nextWord s).1 s.y (nextWord s).2 := by
  simp [resolveAt, resolve, nextWord_eq]

/-! ## The obligations -/

/-- Settles O26: the sum is taken on bytes, before it is extended to a word. -/
theorem zeroPageXWraps : Obligations.ZeroPageXWraps := by
  unfold Obligations.ZeroPageXWraps
  intro s
  rw [resolveAt_zpx]
  exact ⟨rfl, zext_add_toNat _ _, rfl, rfl⟩

/-- Settles O27: as O26, with Y. -/
theorem zeroPageYWraps : Obligations.ZeroPageYWraps := by
  unfold Obligations.ZeroPageYWraps
  intro s
  rw [resolveAt_zpy]
  exact ⟨rfl, zext_add_toNat _ _, rfl, rfl⟩

/-- Settles O28: the address is the operand byte sign-extended. -/
theorem relativeSignExtends : Obligations.RelativeSignExtends := by
  unfold Obligations.RelativeSignExtends
  intro s
  rw [resolveAt_rel]
  exact ⟨sext_toNat _, rfl, rfl⟩

/-- Settles O29: each mode indexes the word at PC, and an indexed address crosses when its low byte carries. -/
theorem absoluteIndexed : Obligations.AbsoluteIndexed := by
  unfold Obligations.AbsoluteIndexed
  rintro s base rfl
  rw [resolveAt_abx, resolveAt_aby, nextWord_eq]
  exact ⟨rfl, rfl, indexed_crossed _ _ _, rfl, rfl, rfl, indexed_crossed _ _ _, rfl⟩

end Sys2Proof.Machine
end

section
/-!
SUPPORT. The load instructions (42_loads R170-R191): where the pointer modes resolve (`resolve_izx`, `resolve_izy`),
what a load leaves in each kind of mode (`loadLeaves_imm`, `loadLeaves_direct`, `loadLeaves_indexed`), what it keeps
(`exec_load_keeps`, `sameMemory_of_eq`), and the proofs of `Obligations.LdaResult`, `Obligations.LdxResult`,
`Obligations.LdyResult` and `Obligations.LoadHandlerFrame`.
-/

namespace Sys2Proof.Machine

/-! ## The flags of a load (R170) -/

theorem getFlag_zero_loadFlags (v p : Byte) : getFlag .zero (loadFlags v p) = (v == 0x00#8) := by
  simp [loadFlags, getFlag_setFlag]

theorem getFlag_negative_loadFlags (v p : Byte) : getFlag .negative (loadFlags v p) = v.getLsbD 7 := by
  simp [loadFlags, getFlag_setFlag]

/-! ## The pointer modes (R161, R162) -/

theorem wordOf_zero (b : Byte) : wordOf 0x00#8 b = zext b := by
  simp [wordOf, zext]

/-- A pointer read in page zero gives the pointer of the rule and leaves the state alone (R161, R162; D12). -/
theorem readPointer_pageZero (p : Byte) (s : State) : readPointer 0x00#8 p s = (pointerAt p s, s) := by
  refine Prod.ext ?_ (readPointer_zero s p)
  simp only [readPointer, readWord, wordOf_zero, memRead_zext, pointerAt]

theorem resolve_izx (z : Byte) (s : State) : resolve (.izx z) s = ⟨pointerAt (z + s.x) s, false, s⟩ := by
  simp only [resolve, readPointer_pageZero]

theorem resolve_izy (z : Byte) (s : State) : resolve (.izy z) s = indexed (pointerAt z s) s.y s := by
  simp only [resolve, readPointer_pageZero]

/-- The address the statements name is the resolver's in the state before the fetch moves PC. -/
theorem effectiveAddress_eq {i : Instr} (himm : ∀ v, operandOf i ≠ .imm v) (s : State) :
    effectiveAddress i s = (resolve (operandOf i) s).addr :=
  (resolve_startInstr (operandOf i) i.opcode _ s himm).1

/-! ## The cost of a non-branch instruction (R134) -/

theorem indexPenalty_false (m : Mode) : indexPenalty m false = 0#8 := by cases m <;> rfl

theorem add_indexPenalty_carries {m : Mode} (hm : indexPenalty m true = 1#8) (cost : Byte) (base : Word)
    (index : Byte) : cost + indexPenalty m (carries base index) = indexedCost cost base index := by
  unfold indexedCost
  cases carries base index with
  | true => rw [hm, if_pos rfl]
  | false => simp [indexPenalty_false]

/-! ## The data read of a load (R170) -/

/-- The data read of a load: its byte, and the state after it. -/
def loadData (i : Instr) (s : State) : Byte × State :=
  readOperand (operandOf i) (resolve (operandOf i) s).addr s

theorem loadData_imm {i : Instr} {v : Byte} (ho : operandOf i = .imm v) (s : State) : loadData i s = (v, s) := by
  rw [loadData, ho, readOperand]

theorem loadData_of_not_imm {i : Instr} (himm : ∀ v, operandOf i ≠ .imm v) (s : State) :
    loadData i s = memRead (resolve (operandOf i) s).addr s := by
  rcases readOperand_cases (operandOf i) (resolve (operandOf i) s).addr s with ⟨v, hv, -⟩ | hread
  · exact absurd hv (himm v)
  · exact hread

/-! ## What a load leaves, by kind of mode -/

section
variable {i : Instr} {r : Reg}

/-- A load's one next state, in the words of the statements (R130, R134, R170). -/
theorem loadLeaves_of_load (h : i.descriptor.handler = .load r) (s : State) :
    LoadLeaves i r (loadData i s) (instrLength (operandOf i))
      (i.descriptor.base + indexPenalty (operandMode (operandOf i)) (resolve (operandOf i) s).crossed)
      (resolve (operandOf i) s).crossed s := by
  rw [LoadLeaves, exec_load h, loadInstr_eq _ _ _ _ (operandOf_not_ind i)]
  refine ⟨_, rfl, getReg_setReg_same _ r _, ?_⟩
  simp [loadData, getFlag_zero_loadFlags, getFlag_negative_loadFlags]

/-- In immediate mode the byte is the operand byte, and no bus read is made (R172, R181, R187; log 15). -/
theorem loadLeaves_imm {v : Byte} (h : i.descriptor.handler = .load r) (ho : operandOf i = .imm v) (s : State) :
    LoadLeaves i r (v, s) 2#16 i.descriptor.base false s := by
  have hleaves := loadLeaves_of_load h s
  rw [loadData_imm ho, ho, resolve_imm_crossed, indexPenalty_false, BitVec.add_zero] at hleaves
  exact hleaves

/-- A mode that reports no crossing costs its base (R173-R175, R178, R182-R184, R188-R190). -/
theorem loadLeaves_direct {a : Word} {s : State} (h : i.descriptor.handler = .load r)
    (himm : ∀ v, operandOf i ≠ .imm v) (hres : resolve (operandOf i) s = ⟨a, false, s⟩) :
    LoadLeaves i r (memRead a s) (instrLength (operandOf i)) i.descriptor.base false s := by
  have hleaves := loadLeaves_of_load h s
  rw [loadData_of_not_imm himm, hres, indexPenalty_false, BitVec.add_zero] at hleaves
  exact hleaves

/-- An indexed mode with the penalty costs one more exactly when the low byte carries (R176, R177, R179, R185,
R191). -/
theorem loadLeaves_indexed {base : Word} {index : Byte} {s : State} (h : i.descriptor.handler = .load r)
    (hpenalty : indexPenalty (operandMode (operandOf i)) true = 1#8) (himm : ∀ v, operandOf i ≠ .imm v)
    (hres : resolve (operandOf i) s = indexed base index s) :
    LoadLeaves i r (memRead (base + zext index) s) (instrLength (operandOf i))
      (indexedCost i.descriptor.base base index) (carries base index) s := by
  have hleaves := loadLeaves_of_load h s
  rw [loadData_of_not_imm himm, hres, indexed_crossed, add_indexPenalty_carries hpenalty] at hleaves
  exact hleaves

/-- The load handler writes no other register, no DMA field and no RAM cell (R170). -/
theorem exec_load_keeps {s t : State} (h : i.descriptor.handler = .load r) (hexec : exec i s = .next t) :
    (∀ q : Reg, q ≠ r → getReg q t = getReg q s) ∧ KeepsDma s t ∧ t.ram = s.ram := by
  rw [exec_load h, loadInstr_eq _ _ _ _ (operandOf_not_ind i)] at hexec
  obtain rfl := Host.Outcome.next.inj hexec
  refine ⟨fun q hq => ?_, by simp [KeepsDma], setReg_ram _ r _⟩
  rw [getReg_setReg_other _ _ hq]
  cases q <;> rfl

end

/-! ## What is kept -/

/-- What every instruction keeps of the control state and the driver's side. -/
theorem ExecFrame.keepsControl {i : Instr} {s t : State} (h : ExecFrame i s t) : KeepsControl s t :=
  ⟨h.sp, h.totalClocks, h.cart, h.clockCount, h.dmaCursor, h.dmaStaging, h.pending, h.reply, h.outOfContract,
    h.sameTick.pictureTicks, h.sameTick.soundTicks⟩

/-- An address of memory outside the RAM window is the DMA trigger's or lies behind the sound window (R66, R71-R73). -/
theorem unowned_of_isMemory {a : Word} (hmem : isMemory a = true) (hram : ¬ a ≤ 0x1FFF#16) :
    a = 0x4014#16 ∨ 0x4016#16 ≤ a := by
  simp only [isMemory, Bool.and_eq_true, Bool.not_eq_true', ← Bool.not_eq_true, inSoundWindow_iff,
    decide_eq_true_eq] at hmem
  obtain ⟨hpicture, hsound⟩ := hmem
  bv_omega

/-- Outside the collaborators' register windows a bus read looks at RAM and the cartridge only (R69, R73, R74). -/
theorem sameMemory_of_eq {s t : State} (hram : t.ram = s.ram) (hcart : t.cart = s.cart) : SameMemory s t := by
  intro a hmem
  have hclaim : cartCpuRead a t = cartCpuRead a s := by rw [cartCpuRead, hcart, cartCpuRead]
  cases hs : cartCpuRead a s with
  | some d => rw [memRead_claimed s hs, memRead_claimed t (hclaim.trans hs)]
  | none =>
    by_cases ha : a ≤ 0x1FFF#16
    · rw [memRead_ram t ha, memRead_ram s ha, hram]
    · have hunowned := unowned_of_isMemory hmem ha
      rw [memRead_unowned t (hclaim.trans hs) hunowned, memRead_unowned s hs hunowned]

/-! ## The obligations -/

/-- Settles O13: the immediate mode, then each mode by where it resolves. -/
theorem ldaResult : Obligations.LdaResult := by
  unfold Obligations.LdaResult
  intro s
  exact ⟨fun v => loadLeaves_imm rfl rfl s, fun z => loadLeaves_direct rfl nofun rfl,
    fun z => loadLeaves_direct rfl nofun rfl, fun w => loadLeaves_direct rfl nofun rfl,
    fun w => loadLeaves_indexed rfl rfl nofun rfl, fun w => loadLeaves_indexed rfl rfl nofun rfl,
    fun z => loadLeaves_direct rfl nofun (resolve_izx z s),
    fun z => loadLeaves_indexed rfl rfl nofun (resolve_izy z s)⟩

/-- Settles O14: as O13, the indexed modes with Y. -/
theorem ldxResult : Obligations.LdxResult := by
  unfold Obligations.LdxResult
  intro s
  exact ⟨fun v => loadLeaves_imm rfl rfl s, fun z => loadLeaves_direct rfl nofun rfl,
    fun z => loadLeaves_direct rfl nofun rfl, fun w => loadLeaves_direct rfl nofun rfl,
    fun w => loadLeaves_indexed rfl rfl nofun rfl⟩

/-- Settles O15: as O13, the indexed modes with X. -/
theorem ldyResult : Obligations.LdyResult := by
  unfold Obligations.LdyResult
  intro s
  exact ⟨fun v => loadLeaves_imm rfl rfl s, fun z => loadLeaves_direct rfl nofun rfl,
    fun z => loadLeaves_direct rfl nofun rfl, fun w => loadLeaves_direct rfl nofun rfl,
    fun w => loadLeaves_indexed rfl rfl nofun rfl⟩

/-- Settles O22: what the load leaves, what it keeps, and the frame of every instruction. -/
theorem loadHandlerFrame : Obligations.LoadHandlerFrame := by
  unfold Obligations.LoadHandlerFrame
  intro i r s h
  obtain ⟨t, hexec, hreg, hzero, hnegative, -, -, -, -, -, hpicture, hsound⟩ := loadLeaves_of_load h s
  obtain ⟨hothers, hdma, hram⟩ := exec_load_keeps h hexec
  obtain ⟨u, hu, hframe⟩ := exec_frame i s
  obtain rfl := Host.Outcome.next.inj (hu.symm.trans hexec)
  rw [← hreg] at hzero hnegative
  refine ⟨u, hexec, fun v ho => ?_, fun himm => ?_, hzero, hnegative, hframe.flags, hothers,
    hframe.keepsControl, hdma, hram, sameMemory_of_eq hram hframe.cart⟩
  · rw [hreg, hpicture, hsound, loadData_imm ho]
    exact ⟨rfl, rfl, rfl⟩
  · rw [hreg, hpicture, hsound, effectiveAddress_eq himm, loadData_of_not_imm himm]
    exact ⟨rfl, rfl, rfl⟩

end Sys2Proof.Machine
end

section
/-!
SUPPORT. The store instructions (43_stores R200-R216): what one bus write does to the DMA registers, to the
collaborators' histories and to memory away from its address, what a store leaves in each kind of mode
(`storeLeaves_direct`, `storeLeaves_indexed`), and the proofs of `Obligations.StaResult`, `Obligations.StxStyResult`
and `Obligations.StoreHandlerFrame`.
-/

namespace Sys2Proof.Machine

/-! ## What one bus write leaves alone -/

/-- Only a write to the trigger's address reaches the DMA registers (R72). -/
theorem memWrite_keepsDma {a : Word} (ha : a ≠ 0x4014#16) (v : Byte) (s : State) : KeepsDma s (memWrite a v s) := by
  rcases memWrite_cases s a v with h | ⟨-, h⟩ | h | h | ⟨htrigger, h⟩
  · rw [h]; exact ⟨rfl, rfl, rfl⟩
  · rw [h]; exact ⟨rfl, rfl, rfl⟩
  · rw [h]; exact ⟨rfl, rfl, rfl⟩
  · rw [h]; exact ⟨rfl, rfl, rfl⟩
  · exact absurd htrigger ha

/-- A write adds no register read to a collaborator's history (R68, R70, R71). -/
theorem memWrite_adds_no_read (a : Word) (v : Byte) (s : State) :
    (∀ n k, (n, PictureCall.readRegister k) ∈ (memWrite a v s).picture.calls →
      (n, PictureCall.readRegister k) ∈ s.picture.calls) ∧
    (∀ n k, (n, SoundCall.readRegister k) ∈ (memWrite a v s).sound.calls →
      (n, SoundCall.readRegister k) ∈ s.sound.calls) := by
  rcases memWrite_cases s a v with h | ⟨-, h⟩ | h | h | ⟨-, h⟩ <;> rw [h]
  · exact ⟨fun _ _ hc => hc, fun _ _ hc => hc⟩
  · exact ⟨fun _ _ hc => hc, fun _ _ hc => hc⟩
  · exact ⟨fun _ _ hc => (List.mem_cons.1 hc).resolve_left nofun, fun _ _ hc => hc⟩
  · exact ⟨fun _ _ hc => hc, fun _ _ hc => (List.mem_cons.1 hc).resolve_left nofun⟩
  · exact ⟨fun _ _ hc => hc, fun _ _ hc => hc⟩

/-- A write changes the byte read at no address of memory but the mirrors of its own RAM cell (R66, R69). -/
theorem memRead_memWrite_of_not_sameRamCell {a b : Word} (hmem : isMemory a = true)
    (hcell : sameRamCell a b = false) (v : Byte) (s : State) :
    (memRead a (memWrite b v s)).1 = (memRead a s).1 := by
  by_cases hb : b ≤ 0x1FFF#16
  · by_cases ha : a ≤ 0x1FFF#16
    · have hne : ramCell b ≠ ramCell a := fun e =>
        Bool.eq_false_iff.1 hcell (sameRamCell_iff.2 ⟨ha, hb, e.symm⟩)
      rw [memRead_memWrite_ram hb ha, if_neg hne]
    · rw [memWrite_ram s v hb]
      exact memRead_high ha rfl rfl rfl
  · have hram : (memWrite b v s).ram = s.ram := (memWrite_ram_cases s b v).resolve_right fun h => hb h.1
    exact sameMemory_of_eq hram (memWrite_cart s b v) a hmem

/-! ## What a store leaves, by kind of mode -/

section
variable {i : Instr} {r : Reg}

/-- A store's one next state, in the words of the statements (R130, R134, R200). -/
theorem storeLeaves_of_store (h : i.descriptor.handler = .store r) (s : State) :
    StoreLeaves i r (effectiveAddress i s) (instrLength (operandOf i))
      (i.descriptor.base + indexPenalty (operandMode (operandOf i)) (resolve (operandOf i) s).crossed)
      (resolve (operandOf i) s).crossed s := by
  have himm := operandOf_store h
  rw [StoreLeaves, exec_store h, storeInstr_eq r _ _ s (operandOf_not_ind i) himm, effectiveAddress_eq himm]
  exact ⟨_, rfl, rfl, rfl, rfl, rfl, rfl, rfl, rfl, rfl, rfl, rfl, rfl, rfl⟩

/-- A mode that reports no crossing costs its base (R202-R204, R207, R210-R212, R214-R216). -/
theorem storeLeaves_direct {a : Word} {s : State} (h : i.descriptor.handler = .store r)
    (hres : resolve (operandOf i) s = ⟨a, false, s⟩) :
    StoreLeaves i r a (instrLength (operandOf i)) i.descriptor.base false s := by
  have hleaves := storeLeaves_of_store h s
  rw [effectiveAddress_eq (operandOf_store h), hres, indexPenalty_false, BitVec.add_zero] at hleaves
  exact hleaves

/-- An indexed mode with the penalty costs one more exactly when the low byte carries, as for a load (R205, R206,
R208; D10). -/
theorem storeLeaves_indexed {base : Word} {index : Byte} {s : State} (h : i.descriptor.handler = .store r)
    (hpenalty : indexPenalty (operandMode (operandOf i)) true = 1#8)
    (hres : resolve (operandOf i) s = indexed base index s) :
    StoreLeaves i r (base + zext index) (instrLength (operandOf i)) (indexedCost i.descriptor.base base index)
      (carries base index) s := by
  have hleaves := storeLeaves_of_store h s
  rw [effectiveAddress_eq (operandOf_store h), hres, indexed_crossed, add_indexPenalty_carries hpenalty] at hleaves
  exact hleaves

/-- The store handler writes no register (R200). -/
theorem exec_store_getReg {s t : State} (h : i.descriptor.handler = .store r) (hexec : exec i s = .next t)
    (q : Reg) : getReg q t = getReg q s := by
  rw [exec_store h, storeInstr_eq r _ _ s (operandOf_not_ind i) (operandOf_store h)] at hexec
  obtain rfl := Host.Outcome.next.inj hexec
  cases q <;> rfl

end

/-! ## The obligations -/

/-- Settles O16: each mode by where it resolves. -/
theorem staResult : Obligations.StaResult := by
  unfold Obligations.StaResult
  intro s
  exact ⟨fun z => storeLeaves_direct rfl rfl, fun z => storeLeaves_direct rfl rfl, fun w => storeLeaves_direct rfl rfl,
    fun w => storeLeaves_indexed rfl rfl rfl, fun w => storeLeaves_indexed rfl rfl rfl,
    fun z => storeLeaves_direct rfl (resolve_izx z s), fun z => storeLeaves_indexed rfl rfl (resolve_izy z s)⟩

/-- Settles O17: as O16; no mode of STX or STY has the penalty. -/
theorem stxStyResult : Obligations.StxStyResult := by
  unfold Obligations.StxStyResult
  intro s
  exact ⟨fun z => storeLeaves_direct rfl rfl, fun z => storeLeaves_direct rfl rfl, fun w => storeLeaves_direct rfl rfl,
    fun z => storeLeaves_direct rfl rfl, fun z => storeLeaves_direct rfl rfl, fun w => storeLeaves_direct rfl rfl⟩

/-- Settles O23: what the store leaves is one bus write, and the rest is what that write and every instruction keep. -/
theorem storeHandlerFrame : Obligations.StoreHandlerFrame := by
  unfold Obligations.StoreHandlerFrame
  intro i r s h
  obtain ⟨t, hexec, hram, hpicture, hsound, hpage, hactive, hphase, hp, -⟩ := storeLeaves_of_store h s
  obtain ⟨u, hu, hframe⟩ := exec_frame i s
  obtain rfl := Host.Outcome.next.inj (hu.symm.trans hexec)
  obtain ⟨w, hw, hread⟩ := exec_store_memRead h s
  obtain rfl := Host.Outcome.next.inj (hw.symm.trans hexec)
  obtain ⟨hpictureReads, hsoundReads⟩ := memWrite_adds_no_read (effectiveAddress i s) (getReg r s) s
  rw [← hpicture] at hpictureReads
  rw [← hsound] at hsoundReads
  refine ⟨handler_store h, w, hexec, hram, hpicture, hsound, hpage, hactive, hphase, hp, exec_store_getReg h hexec,
    hframe.keepsControl, fun htrigger => ?_, hpictureReads, hsoundReads, fun a hmem hcell => ?_⟩
  · -- the DMA registers
    obtain ⟨kpage, kactive, kphase⟩ := memWrite_keepsDma htrigger (getReg r s) s
    exact ⟨hpage.trans kpage, hactive.trans kactive, hphase.trans kphase⟩
  · -- memory away from the stored cell
    rw [hread, memRead_memWrite_of_not_sameRamCell hmem hcell]

end Sys2Proof.Machine
end

section
/-!
SUPPORT. The branch instructions (44_branches R220-R226): what a branch leaves, taken or not (`branchLeaves_of_branch`),
and the proof of `Obligations.BranchTargets`.
-/

namespace Sys2Proof.Machine

/-- A branch's one next state, in the words of the statements (R130, R220, R226). -/
theorem branchLeaves_of_branch {i : Instr} {c : Cond} {r : Byte} (h : i.descriptor.handler = .branch c)
    (ho : operandOf i = .rel r) (s : State) : BranchLeaves i r (condHolds c s.p) s := by
  obtain ⟨d, hd, hexec⟩ := exec_branch h s
  obtain rfl := Operand.rel.inj (ho.symm.trans hd)
  rw [BranchLeaves, hexec, branchInstr_eq]
  exact ⟨_, rfl, rfl, rfl, rfl, rfl⟩

/-- Settles O18: each branch with its own condition (R221-R224). -/
theorem branchTargets : Obligations.BranchTargets := by
  unfold Obligations.BranchTargets
  intro r s
  exact ⟨branchLeaves_of_branch (c := .carryClear) rfl rfl s, branchLeaves_of_branch (c := .carrySet) rfl rfl s,
    branchLeaves_of_branch (c := .notEqual) rfl rfl s, branchLeaves_of_branch (c := .equal) rfl rfl s⟩

end Sys2Proof.Machine
end

section
/-!
SUPPORT. The system bus (46_system_bus R240-R250): what one system clock is in a CPU slot and outside (`busClock_outside`,
`busClock_transfer`, `busClock_cpu`), that the slot falls between the picture unit's clock and the sound unit's
(`busClock_sameTick`), and the proofs of `Obligations.ClockDivider`, `Obligations.PictureFirstSoundLast`,
`Obligations.TransferStarvesCpu`, `Obligations.CountDownTick`, `Obligations.IdleOutsideSlots` and
`Obligations.DmaWriteStepEffect`.
-/

namespace Sys2Proof.Machine

/-! ## The end of a system clock (R240, R243) -/

/-- The end of a system clock touches the sound unit's clock count and the clock counter only. -/
theorem clockTail_eq (s : State) : clockTail s = { s with
    sound := ⟨if s.clockCount % 2 = 0 then s.sound.ticks + 1 else s.sound.ticks, s.sound.calls⟩,
    clockCount := s.clockCount + 1 } := by
  unfold clockTail
  by_cases h : s.clockCount % 2 = 0
  · rw [if_pos h, if_pos h]; rfl
  · rw [if_neg h, if_neg h]

@[simp] theorem clockTail_sound (s : State) : (clockTail s).sound =
    ⟨if s.clockCount % 2 = 0 then s.sound.ticks + 1 else s.sound.ticks, s.sound.calls⟩ := by rw [clockTail_eq]

/-! ## One system clock, by its slot (R240, R244, R250) -/

section
variable {s : State}

theorem busClock_outside (h : s.clockCount % 3 ≠ 0) : busClock s = .next (clockTail (pictureClock s)) := if_neg h

theorem busClock_transfer (hslot : s.clockCount % 3 = 0) (hdma : s.dmaActive = true) :
    busClock s = .next (clockTail (dmaExecute (pictureClock s))) := by
  simp [busClock, cpuSlot, hslot, hdma, onNext]

theorem busClock_cpu {u : State} (hslot : s.clockCount % 3 = 0) (hdma : s.dmaActive = false)
    (htick : cpuTick (pictureClock s) = .next u) : busClock s = .next (clockTail u) := by
  simp [busClock, cpuSlot, hslot, hdma, htick, onNext]

/-- A tick with the counter not at zero is a count-down tick (R136, R137). -/
theorem cpuTick_countDown (h : s.cycles ≠ 0#8) :
    cpuTick s = .next { s with cycles := s.cycles - 1#8, totalClocks := s.totalClocks + 1 } :=
  (cpuTick_cases s).elim And.right fun hfetch => absurd hfetch.1 h

/-! ## The order within one system clock (R242) -/

/-- A CPU tick makes its register calls within the current tick of each collaborator. -/
theorem cpuTick_sameTick {u : State} (h : cpuTick s = .next u) : SameTick s u ∧ u.clockCount = s.clockCount := by
  rcases cpuTick_cases s with ⟨-, e⟩ | ⟨-, v, -, hframe, e⟩
  · obtain rfl := Host.Outcome.next.inj (e.symm.trans h)
    exact ⟨.of_eq rfl rfl, rfl⟩
  · obtain rfl := Host.Outcome.next.inj (e.symm.trans h)
    obtain ⟨hfetch, hkeep⟩ := fetch_frame s
    have hcount : (fetch s).2.clockCount = s.clockCount := by rw [hkeep]
    exact ⟨(hfetch.trans hframe.sameTick).congr rfl rfl, hframe.clockCount.trans hcount⟩

end

/-- What runs in the slot runs after the picture unit's clock and before the sound unit's, and neither clocks them nor
counts. -/
theorem busClock_sameTick (s : State) : ∃ u, busClock s = .next (clockTail u) ∧ SameTick (pictureClock s) u ∧
    u.clockCount = s.clockCount := by
  obtain ⟨u, hu, hslots⟩ := busClock_cases s
  refine ⟨u, hu, ?_⟩
  rcases hslots with ⟨-, rfl⟩ | ⟨-, -, rfl⟩ | ⟨-, -, htick⟩
  · exact ⟨.of_eq rfl rfl, rfl⟩
  · obtain ⟨hsame, hkeep, -⟩ := dmaExecute_frame (pictureClock s)
    exact ⟨hsame, by rw [hkeep]; rfl⟩
  · exact cpuTick_sameTick htick

/-- The divisors 1 and 2, and the counter (R240, R241, R243). -/
theorem busClock_ticks (s : State) : ∃ t, busClock s = .next t ∧ t.picture.ticks = s.picture.ticks + 1 ∧
    t.sound.ticks = (if s.clockCount % 2 = 0 then s.sound.ticks + 1 else s.sound.ticks) ∧
    t.clockCount = s.clockCount + 1 := by
  obtain ⟨u, hu, hsame, hcount⟩ := busClock_sameTick s
  refine ⟨_, hu, ?_, ?_, ?_⟩
  · rw [clockTail_picture, hsame.pictureTicks]; rfl
  · rw [clockTail_sound, hcount, hsame.soundTicks]; rfl
  · rw [clockTail_clockCount, hcount]

/-! ## The obligations -/

/-- Settles O9: the divisors in every clock, and the two ways a step comes to a clock. -/
theorem clockDivider : Obligations.ClockDivider := by
  unfold Obligations.ClockDivider
  refine ⟨fun s hidle => ?_, fun s hidle => step_of_idle hidle, fun s rest hcall => step_of_call hcall⟩
  rw [step_of_idle hidle]
  exact busClock_ticks s

/-- Settles O11: the slot's calls fall in the picture unit's new tick and the sound unit's old one. -/
theorem pictureFirstSoundLast : Obligations.PictureFirstSoundLast := by
  unfold Obligations.PictureFirstSoundLast
  intro s t hidle hstep
  obtain ⟨u, hu, hsame, -⟩ := busClock_sameTick s
  rw [step_of_idle hidle, hu] at hstep
  obtain rfl := Host.Outcome.next.inj hstep
  rw [clockTail_picture, clockTail_sound]
  exact ⟨hsame.pictureCalls, hsame.soundCalls⟩

/-- Settles O41: the clock in a slot and outside, and what a DMA step keeps. -/
theorem transferStarvesCpu : Obligations.TransferStarvesCpu := by
  unfold Obligations.TransferStarvesCpu
  intro s hidle hdma
  obtain ⟨t, ht, hpicture, hsound, -⟩ := busClock_ticks s
  rw [step_of_idle hidle]
  refine ⟨fun hslot => busClock_transfer hslot hdma, busClock_outside, t, ht, ?_⟩
  by_cases hslot : s.clockCount % 3 = 0
  · obtain ⟨-, hkeep, -⟩ := dmaExecute_frame (pictureClock s)
    obtain rfl := Host.Outcome.next.inj ((busClock_transfer hslot hdma).symm.trans ht)
    rw [clockTail_eq, hkeep] at hpicture hsound ⊢
    exact ⟨rfl, rfl, rfl, rfl, rfl, rfl, rfl, rfl, rfl, rfl, rfl, rfl, rfl, hpicture, hsound⟩
  · obtain rfl := Host.Outcome.next.inj ((busClock_outside hslot).symm.trans ht)
    rw [clockTail_eq] at hpicture hsound ⊢
    exact ⟨rfl, rfl, rfl, rfl, rfl, rfl, rfl, rfl, rfl, rfl, rfl, rfl, rfl, hpicture, hsound⟩

/-- Settles O7: the tick itself, and the clock whose slot it is. -/
theorem countDownTick : Obligations.CountDownTick := by
  unfold Obligations.CountDownTick
  intro s hcycles
  refine ⟨cpuTick_countDown hcycles, fun hidle hslot hdma => ?_⟩
  rw [step_of_idle hidle]
  exact busClock_cpu hslot hdma (cpuTick_countDown (s := pictureClock s) hcycles)

/-- Settles O10: outside the slots the picture unit's clock is followed by the end of the clock at once. -/
theorem idleOutsideSlots : Obligations.IdleOutsideSlots := by
  unfold Obligations.IdleOutsideSlots
  intro s hidle hslot
  rw [step_of_idle hidle, busClock_outside hslot, clockTail_eq]
  rfl

/-- Settles O38: the read half, and the write half, whose cursor wraps exactly from 0xFF. -/
theorem dmaWriteStepEffect : Obligations.DmaWriteStepEffect := by
  unfold Obligations.DmaWriteStepEffect
  refine ⟨fun s source hphase hsource => ?_, fun s hphase => ?_⟩
  · subst hsource
    rw [dmaExecute, hphase]
    exact dmaReadStep_eq s
  · have hwrap : s.dmaCursor + 1#8 = 0x00#8 ↔ s.dmaCursor = 0xFF#8 := by bv_omega
    rw [dmaExecute, hphase]
    simp only [dmaWriteStep, pictureCall_dmaCursor, hwrap]
    rfl

end Sys2Proof.Machine
end

section
/-!
SUPPORT. The CPU side of the cartridge and `load` (47_cartridge_mapper R273-R281, R287, R288): what a load that succeeds
says of the image and of the cartridge it makes, the arrays of that cartridge, and the bus on either side of 0x8000; and
the proofs of `Obligations.LoadedArrays`, `Obligations.LowAddressesNotClaimed`, `Obligations.RomWriteClaimedNoEffect`
and `Obligations.FailedLoadChangesNothing`.
-/

namespace Sys2Proof.Machine

/-! ## The cartridge a load makes (R278, R280) -/

/-- A load succeeds exactly when the image passes the four checks, and makes the image's cartridge. -/
theorem loadImage_eq_ok_iff {im : RomImage} {c : Cartridge} :
    loadImage im = .ok c ↔
      16 ≤ im.size ∧ magicOk im = true ∧ imageNeed im ≤ im.size ∧ imageMapperId im = 0#8 ∧ imageCartridge im = c := by
  unfold loadImage
  split_ifs with hsize hmagic hneed hmapper
  · simp [Nat.not_le.2 hsize]
  · have hfail : magicOk im = false := by simpa using hmagic
    simp [hfail]
  · simp [Nat.not_le.2 hneed]
  · simp [hmapper]
  · have hpass : magicOk im = true := by simpa using hmagic
    simp [Nat.not_lt.1 hsize, hpass, Nat.not_lt.1 hneed, not_not.1 hmapper]

theorem chrIsRam_imageCartridge (im : RomImage) :
    chrIsRam (imageCartridge im) = decide ((imageByte im 5).toNat = 0) :=
  decide_eq_decide.2 BitVec.toNat_eq

theorem cellsRead_imageCartridge_prg {im : RomImage} {k : Nat} (hk : k < prgLength (imageCartridge im)) :
    cellsRead .rom k (imageCartridge im).prg = imageByte im (16 + k) :=
  cellsRead_slice hk

theorem chrLength_chrRom {c : Cartridge} (hr : chrIsRam c = false) : chrLength c = c.chrCount.toNat * 8192 := by
  simp [chrLength, hr]

theorem chrLength_chrRam {c : Cartridge} (hr : chrIsRam c = true) : chrLength c = 8192 := if_pos hr

theorem cellsRead_imageCartridge_chr {im : RomImage} (hr : chrIsRam (imageCartridge im) = false) {k : Nat}
    (hk : k < chrLength (imageCartridge im)) :
    cellsRead .rom k (imageCartridge im).chr = imageByte im (16 + prgLength (imageCartridge im) + k) := by
  rw [chrLength_chrRom hr] at hk
  exact cellsRead_slice hk

/-- Settles O42: PRG and CHR-ROM are slices of the image; a CHR-RAM cell reads back what is written to it. -/
theorem loadedArrays : Obligations.LoadedArrays := by
  unfold Obligations.LoadedArrays
  intro im c hload
  obtain ⟨-, -, -, -, rfl⟩ := loadImage_eq_ok_iff.1 hload
  have hkind := chrIsRam_imageCartridge im
  refine ⟨rfl, fun k => cellsRead_imageCartridge_prg, fun hcount => ?_, fun hcount => ?_⟩
  · -- CHR-ROM
    rw [decide_eq_false hcount] at hkind
    exact ⟨hkind, chrLength_chrRom hkind, fun k => cellsRead_imageCartridge_chr hkind⟩
  · -- CHR-RAM
    rw [decide_eq_true hcount] at hkind
    refine ⟨hkind, chrLength_chrRam hkind, fun a v hlt => ?_⟩
    have ha : a ≤ 0x1FFF#14 := by bv_omega
    rw [cartridgePpuRead_ppuWrite_chrRam ha ha hkind, if_pos rfl]

/-! ## The load step (R279, R281, R337) -/

theorem driverLoad_ok {im : RomImage} {c : Cartridge} (h : loadImage im = .ok c) (s : State) :
    driverLoad im s = { s with cart := some c, reply := .loaded } := by
  rw [driverLoad, h]
  rfl

theorem driverLoad_error {im : RomImage} {f : LoadFailure} (h : loadImage im = .error f) (s : State) :
    driverLoad im s = { s with reply := .loadFailed f } := by
  rw [driverLoad, h]
  rfl

/-- The mirroring bit is the parity of `flags6` (R275, R281). -/
theorem imageMirroring_eq (im : RomImage) :
    imageMirroring im = if (imageByte im 6).toNat % 2 = 1 then .vertical else .horizontal := by
  simp only [imageMirroring, BitVec.getLsbD, Nat.testBit_zero, decide_eq_true_eq]

/-- Settles O44: the step is the load, and the header's fields are those of the image's cartridge. -/
theorem failedLoadChangesNothing : Obligations.FailedLoadChangesNothing := by
  unfold Obligations.FailedLoadChangesNothing
  intro s im rest hp
  rw [step_of_call hp, runCall]
  refine ⟨fun f hload => by rw [driverLoad_error hload], fun c hload => ⟨by rw [driverLoad_ok hload], ?_⟩⟩
  obtain ⟨-, -, -, hmapper, rfl⟩ := loadImage_eq_ok_iff.1 hload
  exact ⟨rfl, rfl, hmapper, rfl, imageMirroring_eq im, cartridgeMirrorMode_eq _⟩

/-! ## The bus below 0x8000 (R287) -/

/-- The windows of the bus: RAM, the picture unit, the sound unit, and the addresses of neither. -/
theorem busWindow_cases (a : Word) :
    a ≤ 0x1FFF#16 ∨ (0x2000#16 ≤ a ∧ a ≤ 0x3FFF#16) ∨ inSoundWindow a = true ∨ a = 0x4014#16 ∨ 0x4016#16 ≤ a := by
  rw [inSoundWindow_iff]
  bv_omega

section
variable {a : Word} (h : ¬ 0x8000#16 ≤ a) (d : Option Cartridge) (s : State)
include h

theorem memRead_setCart :
    memRead a { s with cart := d } = ((memRead a s).1, { (memRead a s).2 with cart := d }) := by
  rcases busWindow_cases a with ha | ⟨hlo, hhi⟩ | ha | ha
  · rw [memRead_ram _ ha, memRead_ram s ha]
  · rw [memRead_picture _ hlo hhi, memRead_picture s hlo hhi]
    rfl
  · rw [memRead_sound _ ha, memRead_sound s ha]
    rfl
  · rw [memRead_unowned _ (cartCpuRead_low _ h) ha, memRead_unowned s (cartCpuRead_low s h) ha]

theorem memWrite_setCart (v : Byte) :
    memWrite a v { s with cart := d } = { memWrite a v s with cart := d } := by
  rcases busWindow_cases a with ha | ⟨hlo, hhi⟩ | ha | rfl | ha
  · rw [memWrite_ram _ v ha, memWrite_ram s v ha]
    rfl
  · rw [memWrite_picture _ v hlo hhi, memWrite_picture s v hlo hhi]
    rfl
  · rw [memWrite_sound _ v ha, memWrite_sound s v ha]
    rfl
  · rw [memWrite_trigger, memWrite_trigger]
    rfl
  · rw [memWrite_unowned _ v (cartCpuWrite_low _ v h) ha, memWrite_unowned s v (cartCpuWrite_low s v h) ha]

end

/-- Settles O34: below 0x8000 a bus access is the access without a cartridge. -/
theorem lowAddressesNotClaimed : Obligations.LowAddressesNotClaimed := by
  unfold Obligations.LowAddressesNotClaimed
  intro s c a v _ hlow
  have h : ¬ 0x8000#16 ≤ a := BitVec.not_le.2 hlow
  refine ⟨cartridgeCpuRead_low c h, cartridgeCpuWrite_low c v h, memRead_setCart h s.cart { s with cart := none },
    memWrite_setCart h s.cart { s with cart := none } v, fun hlo => ?_⟩
  have hunowned : 0x4016#16 ≤ a := by bv_omega
  exact ⟨memRead_unowned s (cartCpuRead_low s h) (.inr hunowned),
    memWrite_unowned s v (cartCpuWrite_low s v h) hunowned⟩

/-! ## Writes at or above 0x8000 (R288) -/

/-- A write the cartridge claims changes nothing (R68, R288). -/
theorem memWrite_claimed {a : Word} {v : Byte} {s : State} (h : cartCpuWrite a v s = true) : memWrite a v s = s :=
  if_pos h

theorem cartCpuWrite_of_cart {s : State} {c : Cartridge} (hc : s.cart = some c) (a : Word) (v : Byte) :
    cartCpuWrite a v s = cartridgeCpuWrite c a v := by
  rw [cartCpuWrite, hc]

theorem cartridgeCpuWrite_eq (c : Cartridge) (a : Word) (v : Byte) :
    cartridgeCpuWrite c a v = decide (0x8000#16 ≤ a) := by
  unfold cartridgeCpuWrite
  cases c.mapper
  rfl

/-- Settles O35: the mapper claims by address alone, and a claimed write ends there. -/
theorem romWriteClaimedNoEffect : Obligations.RomWriteClaimedNoEffect := by
  unfold Obligations.RomWriteClaimedNoEffect
  intro s c a v hc
  refine ⟨cartridgeCpuWrite_eq c a v, fun ha => memWrite_claimed ?_⟩
  rw [cartCpuWrite_of_cart hc, cartridgeCpuWrite_eq, decide_eq_true ha]

end Sys2Proof.Machine
end

section
/-!
SUPPORT. Interrupts and reset (60_exceptions R302-R308, 70_reset_and_hazards R331): the status byte of interrupt entry
as masks (`entryStatus_eq`, `enteredStatus_eq`), entry with the call taken (`interruptEntry_setPending`), `bus.reset()`
in closed form (`busReset_eq`), and the proofs of `Obligations.InterruptEntryEffect`, `Obligations.IrqAfterNmiIsLost`,
`Obligations.MaskedIrqIsLost`, `Obligations.ResetEffect` and `Obligations.ResetMeetsInvariants`.
-/

namespace Sys2Proof.Machine

/-! ## The status byte (R305; D30) -/

theorem entryStatus_eq (p : Byte) : entryStatus p = (p &&& 0xEF#8) ||| 0x20#8 := rfl

theorem enteredStatus_eq (p : Byte) : enteredStatus p = (p &&& 0xEF#8) ||| 0x24#8 :=
  BitVec.or_assoc (p &&& 0xEF#8) 0x20#8 0x04#8

/-! ## Interrupt entry as a step -/

/-- The driver's list of calls has no part in what a bus read gives. -/
theorem memRead_fst_setPending (a : Word) (rest : List EnvCall) (s : State) :
    (memRead a { s with pending := rest }).1 = (memRead a s).1 := by
  rw [memRead_setPending a rest s]

/-- Entry through a vector of the cartridge window, with the call taken off `pending` (R305). -/
theorem interruptEntry_setPending {vec : Word} (latency : Byte) (rest : List EnvCall) (s : State)
    (h : 0x8000#16 ≤ vec) (h' : 0x8000#16 ≤ vec + 1#16) :
    interruptEntry vec latency { s with pending := rest } = { s with
      pending := rest,
      ram := cellsWrite .ram (0x100 + (s.sp - 2#8).toNat) ((s.p &&& 0xEF#8) ||| 0x20#8)
        (cellsWrite .ram (0x100 + (s.sp - 1#8).toNat) (lowByte s.pc)
          (cellsWrite .ram (0x100 + s.sp.toNat) (highByte s.pc) s.ram)),
      sp := s.sp - 3#8,
      p := (s.p &&& 0xEF#8) ||| 0x24#8,
      pc := wordOf (memRead (vec + 1#16) s).1 (memRead vec s).1,
      cycles := latency } := by
  rw [interruptEntry_eq latency _ h h', ← enteredStatus_eq, ← entryStatus_eq,
    memRead_fst_setPending _ rest s, memRead_fst_setPending _ rest s]
  rfl

/-- Settles O48: both interrupts are entry through their vector. -/
theorem interruptEntryEffect : Obligations.InterruptEntryEffect := by
  unfold Obligations.InterruptEntryEffect
  rintro s rest vec latency (⟨hp, hi, rfl, rfl⟩ | ⟨hp, rfl, rfl⟩) <;> rw [step_of_call hp, runCall]
  · rw [cpuIrq_taken (s := { s with pending := rest }) hi, interruptEntry_setPending _ rest s (by decide) (by decide)]
  · rw [cpuNmi, interruptEntry_setPending _ rest s (by decide) (by decide)]

/-- Settles O49: entry leaves I set, and a masked `irq()` does nothing. -/
theorem irqAfterNmiIsLost : Obligations.IrqAfterNmiIsLost := by
  unfold Obligations.IrqAfterNmiIsLost
  intro s
  apply cpuIrq_masked
  rw [cpuNmi, interruptEntry_p, getFlag_enteredStatus]
  rfl

/-- Settles O47: the call is taken off `pending`, and that is all. -/
theorem maskedIrqIsLost : Obligations.MaskedIrqIsLost := by
  unfold Obligations.MaskedIrqIsLost
  intro s rest hp hi
  rw [step_of_call hp, runCall, cpuIrq_masked (s := { s with pending := rest }) hi]

/-! ## Reset -/

/-- `cpu.reset()` in closed form: the registers, and PC from two reads of the cartridge window (R331, R332). -/
theorem cpuReset_eq (s : State) : cpuReset s = { resetRegisters s with
    pc := wordOf (memRead 0xFFFD#16 s).1 (memRead 0xFFFC#16 s).1 } := by
  have hread := fun a => (memRead_of_same a (s := s) (t := resetRegisters s) rfl rfl rfl rfl).1
  rw [cpuReset, readVector_rom (by decide) (by decide), hread, hread]
  rfl

/-- `bus.reset()` in closed form (R50, R254, R331). -/
theorem busReset_eq (s : State) : busReset s = { s with
    a := Config.resetA, x := Config.resetX, y := Config.resetY, sp := 0xFD#8, p := 0x20#8,
    pc := wordOf (memRead 0xFFFD#16 s).1 (memRead 0xFFFC#16 s).1,
    opcode := 0x00#8, cycles := 8#8, totalClocks := 0, branchTaken := false, pageCrossed := false, clockCount := 0,
    dmaActive := false, dmaPage := 0x00#8, dmaCursor := 0x00#8, dmaStaging := 0x00#8, dmaPhase := .read,
    picture := ⟨s.picture.ticks, (s.picture.ticks, .reset) :: s.picture.calls⟩,
    sound := ⟨s.sound.ticks, (s.sound.ticks, .reset) :: s.sound.calls⟩ } := by
  have hread := fun a => (memRead_of_same a (s := s) (t := resetBusFields s) rfl rfl rfl rfl).1
  rw [busReset, cpuReset_eq, hread, hread]
  rfl

/-- Settles O50: the closed form, with the call taken off `pending`. -/
theorem resetEffect : Obligations.ResetEffect := by
  unfold Obligations.ResetEffect
  intro s rest hp
  rw [step_of_call hp, runCall, busReset_eq, memRead_fst_setPending _ rest s, memRead_fst_setPending _ rest s]

/-- Settles O51: each invariant, evaluated at the reset state. -/
theorem resetMeetsInvariants : Obligations.ResetMeetsInvariants :=
  ⟨rfl, rfl, rfl, rfl, rfl, rfl⟩

end Sys2Proof.Machine
end

section
/-!
SUPPORT. What a step can do to SP, the remaining-cycles counter, the DMA controller and the form of memory (10_state
R23, R36, R40, R45, R48): a step as one system clock or one call (`step_clock_or_call`), what a system clock keeps
(`busClock_keeps`) and what each call keeps (`runCall_keepsBounds`, `runCall_arraysWf`), and the proofs of
`Obligations.StepKeepsMemoryForm`, `Obligations.StepKeepsDmaIdleAtStart`, `Obligations.StepKeepsCyclesBounded` and
`Obligations.StackPointerMovesOnlyByEntryAndReset`.
-/

namespace Sys2Proof.Machine

/-! ## A step as a clock or a call -/

/-- A step is one system clock, a pending `clock()` taken, or one other call, that call taken. -/
theorem step_clock_or_call {s t : State} (h : step s = .next t) :
    (∃ rest, (∀ c ∈ rest, c ∈ s.pending) ∧ busClock { s with pending := rest } = .next t) ∨
    ∃ c rest, s.pending = c :: rest ∧ c ≠ .clock ∧ runCall c { s with pending := rest } = .next t := by
  cases hp : s.pending with
  | nil => exact .inl ⟨s.pending, fun c hc => hp ▸ hc, by rw [← step_of_idle hp, h]⟩
  | cons c rest =>
    rw [step_of_call hp] at h
    by_cases hc : c = .clock
    · subst hc
      exact .inl ⟨rest, fun c hc => List.mem_cons_of_mem _ hc, h⟩
    · exact .inr ⟨c, rest, rfl, hc, h⟩

/-! ## The invariants as propositions -/

theorem dmaIdleAtStart_iff {s : State} : dmaIdleAtStart s = true ↔
    (s.dmaActive = false → s.dmaCursor = 0x00#8 ∧ s.dmaPhase = .read) := by
  cases h : s.dmaActive <;> simp [dmaIdleAtStart, h]

theorem cyclesBounded_iff {s : State} : cyclesBounded s = true ↔ s.cycles ≤ 8#8 := by simp [cyclesBounded]

theorem memoryWf_iff {s : State} : memoryWf s = true ↔
    cellsWf .ram ramSize s.ram = true ∧ (∀ c, s.cart = some c → cartWf c = true) ∧
      ∀ im, .load im ∈ s.pending → imageWf im = true := by
  have hcart : (s.cart.map cartWf).getD true = true ↔ ∀ c, s.cart = some c → cartWf c = true := by
    cases s.cart <;> simp
  have hpending : pendingWf s = true ↔ ∀ im, .load im ∈ s.pending → imageWf im = true := by
    rw [pendingWf, List.all_eq_true]
    refine ⟨fun h im => h (.load im), fun h c hc => ?_⟩
    cases c with
    | load im => exact h im hc
    | _ => rfl
  simp [memoryWf, hcart, hpending, and_assoc]

/-! ## What a clock and a call keep -/

/-- The counter's bound, the DMA controller's rest state and the driver's calls still to make are kept. -/
structure KeepsBounds (s t : State) : Prop where
  cycles : s.cycles ≤ 8#8 → t.cycles ≤ 8#8
  dmaIdle : dmaIdleAtStart s = true → dmaIdleAtStart t = true
  pending : t.pending = s.pending

/-- What a system clock keeps: SP and the cartridge too, and RAM but for one cell at most. -/
structure ClockKeeps (s t : State) : Prop extends KeepsBounds s t where
  sp : t.sp = s.sp
  ram : t.ram = s.ram ∨ ∃ n v, n < ramSize ∧ t.ram = cellsWrite .ram n v s.ram
  cart : t.cart = s.cart

/-- What a call keeps that reaches neither the CPU nor the DMA controller. -/
structure CallKeeps (s t : State) : Prop where
  sp : t.sp = s.sp
  cycles : t.cycles = s.cycles
  dmaActive : t.dmaActive = s.dmaActive
  dmaCursor : t.dmaCursor = s.dmaCursor
  dmaPhase : t.dmaPhase = s.dmaPhase
  pending : t.pending = s.pending

theorem CallKeeps.keepsBounds {s t : State} (h : CallKeeps s t) : KeepsBounds s t where
  cycles hle := h.cycles ▸ hle
  dmaIdle hidle := by
    rw [dmaIdleAtStart, h.dmaActive, h.dmaCursor, h.dmaPhase]
    exact hidle
  pending := h.pending

/-! ## One system clock -/

theorem ClockKeeps.clockTail {s u : State} (h : ClockKeeps s u) : ClockKeeps s (clockTail u) := by
  rw [clockTail_eq]
  exact { h with }

/-- A DMA step in a transfer: the read half leaves it active, the write half ends it at cursor 0x00 only (R245-R249). -/
theorem dmaExecute_dmaIdle {s : State} (hactive : s.dmaActive = true) : dmaIdleAtStart (dmaExecute s) = true := by
  obtain ⟨-, -, hhalf⟩ := dmaExecute_frame s
  rw [dmaIdleAtStart_iff]
  intro hend
  rcases hhalf with ⟨-, hkeep, -⟩ | ⟨hphase, hcursor, hwrap⟩
  · exact absurd (hactive.symm.trans (hkeep.symm.trans hend)) nofun
  · rw [hwrap, hactive] at hend
    split_ifs at hend with hzero
    exact ⟨hcursor.trans hzero, hphase⟩

theorem dmaExecute_keeps {s : State} (hactive : s.dmaActive = true) : ClockKeeps s (dmaExecute s) := by
  have hidle := dmaExecute_dmaIdle hactive
  obtain ⟨-, hframe, -⟩ := dmaExecute_frame s
  rw [hframe] at hidle ⊢
  exact { cycles := id, dmaIdle := fun _ => hidle, pending := rfl, sp := rfl, ram := .inl rfl, cart := rfl }

/-- An instruction leaves the DMA controller alone, or arms it (R72). -/
theorem ExecFrame.clockKeeps {i : Instr} {s t : State} (h : ExecFrame i s t) : ClockKeeps s t where
  cycles _ := h.cycles
  dmaIdle hidle := by
    rw [dmaIdleAtStart_iff] at hidle ⊢
    rcases h.dma with ⟨-, hactive, hphase⟩ | ⟨hactive, -⟩
    · rw [hactive, hphase, h.dmaCursor]
      exact hidle
    · exact fun hend => absurd (hactive.symm.trans hend) nofun
  pending := h.pending
  sp := h.sp
  ram := h.ram.imp_right And.right
  cart := h.cart

theorem cpuTick_keeps {s t : State} (h : cpuTick s = .next t) : ClockKeeps s t := by
  rcases cpuTick_cases s with ⟨hne, e⟩ | ⟨-, u, -, hframe, e⟩
  · -- a count-down tick, from a counter that is not 0
    obtain rfl := Host.Outcome.next.inj (e.symm.trans h)
    have hdown : s.cycles ≤ 8#8 → s.cycles - 1#8 ≤ 8#8 := by bv_omega
    exact { cycles := hdown, dmaIdle := id, pending := rfl, sp := rfl, ram := .inl rfl, cart := rfl }
  · -- a fetch tick: the fetch changes the collaborators' histories only
    obtain rfl := Host.Outcome.next.inj (e.symm.trans h)
    have hkeeps := hframe.clockKeeps
    rw [(fetch_frame s).2] at hkeeps
    exact { hkeeps with }

theorem busClock_keeps {s t : State} (h : busClock s = .next t) : ClockKeeps s t := by
  obtain ⟨u, hu, hslots⟩ := busClock_cases s
  obtain rfl := Host.Outcome.next.inj (hu.symm.trans h)
  apply ClockKeeps.clockTail
  rcases hslots with ⟨-, rfl⟩ | ⟨-, hactive, rfl⟩ | ⟨-, -, htick⟩
  · exact { cycles := id, dmaIdle := id, pending := rfl, sp := rfl, ram := .inl rfl, cart := rfl }
  · exact { dmaExecute_keeps (s := pictureClock s) hactive with }
  · exact { cpuTick_keeps htick with }

/-! ## The calls of the environment -/

/-- The calls that reach neither the CPU's registers nor the DMA controller: no clock, no reset, no interrupt, and no
bus write of the driver's. -/
def isOutsideCpuAndDma : EnvCall → Bool
  | .clock | .reset | .irq | .nmi | .busWrite _ _ => false
  | _ => true

theorem runCall_outside {c : EnvCall} {s t : State} (hc : isOutsideCpuAndDma c = true) (h : runCall c s = .next t) :
    CallKeeps s t := by
  cases c with
  | clock | reset | irq | nmi | busWrite => cases hc
  | load im =>
    obtain rfl := Host.Outcome.next.inj h
    unfold driverLoad
    cases loadImage im <;> exact ⟨rfl, rfl, rfl, rfl, rfl, rfl⟩
  | busRead a =>
    obtain rfl := Host.Outcome.next.inj h
    constructor <;> simp [driverRead]
  | ppuWrite a v =>
    obtain rfl := Host.Outcome.next.inj h
    rw [picturePpuWrite_eq]
    exact ⟨rfl, rfl, rfl, rfl, rfl, rfl⟩
  | _ =>
    obtain rfl := Host.Outcome.next.inj h
    exact ⟨rfl, rfl, rfl, rfl, rfl, rfl⟩

/-- Interrupt entry writes its latency to the counter and leaves the DMA controller alone (R305). -/
theorem interruptEntry_keepsBounds {vec : Word} {latency : Byte} (s : State) (h : 0x8000#16 ≤ vec)
    (h' : 0x8000#16 ≤ vec + 1#16) (hlatency : latency ≤ 8#8) : KeepsBounds s (interruptEntry vec latency s) := by
  rw [interruptEntry_eq latency s h h']
  exact ⟨fun _ => hlatency, id, rfl⟩

/-- An `irq()` is lost, or is an entry (R303). -/
theorem cpuIrq_cases (s : State) : cpuIrq s = s ∨ cpuIrq s = interruptEntry 0xFFFE#16 7#8 s := by
  cases hi : getFlag .interruptDisable s.p with
  | true => exact .inl (cpuIrq_masked hi)
  | false => exact .inr (cpuIrq_taken hi)

/-- A bus write keeps the controller's rest state: it leaves the controller alone, or arms it (R72). -/
theorem memWrite_dmaIdle {s : State} (h : dmaIdleAtStart s = true) (a : Word) (v : Byte) :
    dmaIdleAtStart (memWrite a v s) = true := by
  rw [dmaIdleAtStart_iff] at h ⊢
  rcases memWrite_dma_cases s a v with ⟨-, hactive, hphase⟩ | ⟨hactive, -⟩
  · rw [hactive, hphase, memWrite_dmaCursor]
    exact h
  · exact fun hend => absurd (hactive.symm.trans hend) nofun

/-- Every call but a clock keeps the bounds: a reset and an entry write 8 or 7 to the counter, a reset clears the DMA
controller and a bus write can arm it. -/
theorem runCall_keepsBounds {c : EnvCall} {s t : State} (hc : c ≠ .clock) (h : runCall c s = .next t) :
    KeepsBounds s t := by
  cases c with
  | clock => exact absurd rfl hc
  | reset =>
    obtain rfl := Host.Outcome.next.inj h
    rw [busReset_eq]
    exact ⟨fun _ => BitVec.le_refl 8#8, fun _ => rfl, rfl⟩
  | irq =>
    obtain rfl := Host.Outcome.next.inj h
    rcases cpuIrq_cases s with e | e <;> rw [e]
    · exact ⟨id, id, rfl⟩
    · exact interruptEntry_keepsBounds s (by decide) (by decide) (by decide)
  | nmi =>
    obtain rfl := Host.Outcome.next.inj h
    exact interruptEntry_keepsBounds s (by decide) (by decide) (by decide)
  | busWrite a v =>
    obtain rfl := Host.Outcome.next.inj h
    exact ⟨fun hle => (memWrite_cycles s a v).symm ▸ hle, fun hidle => memWrite_dmaIdle hidle a v,
      memWrite_pending s a v⟩
  | _ => exact (runCall_outside rfl h).keepsBounds

/-! ## The DMA controller, the counter, SP -/

/-- A step keeps the bounds, with the call it makes taken off `pending`. -/
theorem step_keepsBounds {s t : State} (h : step s = .next t) : ∃ rest, KeepsBounds { s with pending := rest } t := by
  rcases step_clock_or_call h with ⟨rest, -, hclock⟩ | ⟨c, rest, -, hne, hcall⟩
  · exact ⟨rest, (busClock_keeps hclock).toKeepsBounds⟩
  · exact ⟨rest, runCall_keepsBounds hne hcall⟩

/-- Settles O54: a step keeps the bounds, and the rest state does not look at `pending`. -/
theorem stepKeepsDmaIdleAtStart : Obligations.StepKeepsDmaIdleAtStart := by
  unfold Obligations.StepKeepsDmaIdleAtStart
  intro s t hs h
  obtain ⟨rest, hkeeps⟩ := step_keepsBounds h
  exact hkeeps.dmaIdle hs

/-- Settles O55: a step keeps the bounds, and the counter does not look at `pending`. -/
theorem stepKeepsCyclesBounded : Obligations.StepKeepsCyclesBounded := by
  unfold Obligations.StepKeepsCyclesBounded
  intro s t hs h
  obtain ⟨rest, hkeeps⟩ := step_keepsBounds h
  rw [cyclesBounded_iff] at hs ⊢
  exact hkeeps.cycles hs

/-- Settles O58: a clock and every call but the three keep SP. -/
theorem stackPointerMovesOnlyByEntryAndReset : Obligations.StackPointerMovesOnlyByEntryAndReset := by
  unfold Obligations.StackPointerMovesOnlyByEntryAndReset
  intro s t h hmoved
  rcases step_clock_or_call h with ⟨rest, -, hclock⟩ | ⟨c, rest, hp, hne, hcall⟩
  · exact absurd (busClock_keeps hclock).sp hmoved
  · cases c with
    | clock => exact absurd rfl hne
    | reset => exact ⟨rest, .inl hp⟩
    | irq => exact ⟨rest, .inr (.inl hp)⟩
    | nmi => exact ⟨rest, .inr (.inr hp)⟩
    | busWrite a v =>
      obtain rfl := Host.Outcome.next.inj hcall
      exact absurd (memWrite_sp _ a v) hmoved
    | _ => exact absurd (runCall_outside rfl hcall).sp hmoved

/-! ## The form of memory -/

/-- A load leaves the cartridge as it was, or the one the image makes (R278, R279). -/
theorem driverLoad_cart (im : RomImage) (s : State) :
    (driverLoad im s).cart = s.cart ∨ (driverLoad im s).cart = some (imageCartridge im) := by
  cases hload : loadImage im with
  | error f => rw [driverLoad_error hload]; exact .inl rfl
  | ok c =>
    obtain ⟨-, -, -, -, rfl⟩ := loadImage_eq_ok_iff.1 hload
    rw [driverLoad_ok hload]
    exact .inr rfl

/-- RAM and the cartridge's arrays are in canonical form and within their lengths (R40, R48). -/
def ArraysWf (s : State) : Prop :=
  cellsWf .ram ramSize s.ram = true ∧ ∀ c, s.cart = some c → cartWf c = true

theorem ArraysWf.of_cart_eq {s t : State} (h : ArraysWf s) (hram : cellsWf .ram ramSize t.ram = true)
    (hcart : t.cart = s.cart) : ArraysWf t :=
  ⟨hram, hcart ▸ h.2⟩

theorem ClockKeeps.arraysWf {s t : State} (h : ClockKeeps s t) (hs : ArraysWf s) : ArraysWf t := by
  refine hs.of_cart_eq ?_ h.cart
  rcases h.ram with e | ⟨n, v, hn, e⟩ <;> rw [e]
  · exact hs.1
  · exact cellsWf_write hs.1 hn

theorem driverLoad_arraysWf {im : RomImage} (him : imageWf im = true) {s : State} (h : ArraysWf s) :
    ArraysWf (driverLoad im s) := by
  have hram : cellsWf .ram ramSize (driverLoad im s).ram = true := by rw [(driverLoad_frame im s).2]; exact h.1
  rcases driverLoad_cart im s with e | e
  · exact h.of_cart_eq hram e
  · refine ⟨hram, fun c hc => ?_⟩
    obtain rfl := Option.some.inj (e.symm.trans hc)
    exact imageCartridge_wf him

theorem picturePpuWrite_arraysWf (a : PicAddr) (v : Byte) {s : State} (h : ArraysWf s) :
    ArraysWf (picturePpuWrite a v s) := by
  rw [picturePpuWrite_eq]
  refine ⟨h.1, fun c hc => ?_⟩
  rw [pictureCall_cart] at hc
  obtain ⟨d, hd, rfl⟩ := Option.map_eq_some_iff.1 hc
  exact cartridgePpuWrite_wf (h.2 d hd) a v

/-- Every call but a clock keeps the form, a load if its image is in canonical form. -/
theorem runCall_arraysWf {c : EnvCall} {s t : State} (hc : c ≠ .clock) (him : ∀ im, c = .load im → imageWf im = true)
    (h : runCall c s = .next t) (hs : ArraysWf s) : ArraysWf t := by
  cases c with
  | clock => exact absurd rfl hc
  | load im =>
    obtain rfl := Host.Outcome.next.inj h
    exact driverLoad_arraysWf (him im rfl) hs
  | ppuWrite a v =>
    obtain rfl := Host.Outcome.next.inj h
    exact picturePpuWrite_arraysWf a v hs
  | reset =>
    obtain rfl := Host.Outcome.next.inj h
    exact hs.of_cart_eq (busReset_ram s ▸ hs.1) (busReset_cart s)
  | irq =>
    obtain rfl := Host.Outcome.next.inj h
    rcases cpuIrq_cases s with e | e <;> rw [e]
    · exact hs
    · exact hs.of_cart_eq (interruptEntry_ramWf hs.1 _ _) (interruptEntry_cart _ _ s)
  | nmi =>
    obtain rfl := Host.Outcome.next.inj h
    exact hs.of_cart_eq (interruptEntry_ramWf hs.1 _ _) (interruptEntry_cart _ _ s)
  | busWrite a v =>
    obtain rfl := Host.Outcome.next.inj h
    exact hs.of_cart_eq (memWrite_ramWf hs.1 a v) (memWrite_cart s a v)
  | _ =>
    obtain ⟨-, hram, hcart⟩ := runCall_quiet rfl h
    exact hs.of_cart_eq (hram ▸ hs.1) hcart

/-- Settles O52: a clock and every call keep the form of the arrays, and the calls left to make are fewer. -/
theorem stepKeepsMemoryForm : Obligations.StepKeepsMemoryForm := by
  unfold Obligations.StepKeepsMemoryForm
  intro s t hs h
  rw [memoryWf_iff, ← and_assoc] at hs ⊢
  obtain ⟨harrays, himages⟩ := hs
  rcases step_clock_or_call h with ⟨rest, hmem, hclock⟩ | ⟨c, rest, hp, hne, hcall⟩
  · have hkeeps := busClock_keeps hclock
    refine ⟨hkeeps.arraysWf harrays, fun im him => ?_⟩
    rw [hkeeps.pending] at him
    exact himages im (hmem _ him)
  · rw [hp] at himages
    refine ⟨runCall_arraysWf hne (fun im e => himages im (e ▸ List.mem_cons_self)) hcall harrays, fun im him => ?_⟩
    rw [(runCall_keepsBounds hne hcall).pending] at him
    exact himages im (List.mem_cons_of_mem c him)

end Sys2Proof.Machine
end

section
/-!
SUPPORT. The count-down (40_cpu_tick_engine R136-R138; 46_system_bus R240, R255): N ticks from a counter at N
(`cpuTicks_countDown`), the 3N system clocks they take (`run_countDown`), and the proofs of
`Obligations.CountDownReachesFetch` and `Obligations.FirstFetchAtCount24`.
-/

namespace Sys2Proof.Machine

/-- The count-down by induction on the counter's value (R136-R138). -/
theorem cpuTicks_countDown {n : Nat} {s : State} (hn : s.cycles.toNat = n) :
    cpuTicks n s = .next { s with cycles := 0#8, totalClocks := s.totalClocks + n } := by
  induction n generalizing s with
  | zero =>
    have hzero : s.cycles = 0#8 := BitVec.eq_of_toNat_eq hn
    rw [cpuTicks, ← hzero]
    rfl
  | succ n ih =>
    have hne : s.cycles ≠ 0#8 := by bv_omega
    have hdown : (s.cycles - 1#8).toNat = n := by bv_omega
    rw [cpuTicks, cpuTick_countDown hne]
    dsimp only
    rw [ih hdown, Nat.add_assoc, Nat.add_comm 1 n]

/-- Settles O8: the induction, at the counter's own value. -/
theorem countDownReachesFetch : Obligations.CountDownReachesFetch := by
  unfold Obligations.CountDownReachesFetch
  intro s
  exact cpuTicks_countDown rfl

/-! ## Runs of steps -/

theorem run_succ_of_next {M : Host.Core} {s t : M.State} (h : M.step s = .next t) (k : Nat) :
    M.run (k + 1) s = M.run k t := by
  rw [Host.Core.run, h]

/-- A run takes the machine's own first step. -/
theorem run_succ_of_step {s t : State} (h : step s = .next t) (k : Nat) :
    Host.Core.run Sys2Proof.core (k + 1) s = Host.Core.run Sys2Proof.core k t :=
  run_succ_of_next (M := Sys2Proof.core) h k

/-! ## The count-down in system clocks (R240, R255) -/

/-- A system clock leaves everything but the collaborators and the clock counter, and counts the CPU down by `n`. -/
def CountedDown (clocks n : Nat) (s t : State) : Prop :=
  ∃ picture sound, t = { s with
    picture := picture, sound := sound, clockCount := s.clockCount + clocks,
    cycles := s.cycles - BitVec.ofNat 8 n, totalClocks := s.totalClocks + n }

theorem CountedDown.trans {k n k' n' : Nat} {s t u : State} (h : CountedDown k n s t) (h' : CountedDown k' n' t u) :
    CountedDown (k + k') (n + n') s u := by
  obtain ⟨_, _, rfl⟩ := h
  obtain ⟨picture, sound, rfl⟩ := h'
  refine ⟨picture, sound, ?_⟩
  have hcycles : s.cycles - BitVec.ofNat 8 n - BitVec.ofNat 8 n' = s.cycles - BitVec.ofNat 8 (n + n') := by
    rw [BitVec.ofNat_add, BitVec.sub_sub]
  simp only [hcycles, Nat.add_assoc]

/-- A clock outside a slot leaves the counter (R240, R241). -/
theorem step_outside_countedDown {s : State} (hidle : s.pending = []) (hslot : s.clockCount % 3 ≠ 0) :
    ∃ t, step s = .next t ∧ CountedDown 1 0 s t := by
  refine ⟨_, idleOutsideSlots s hidle hslot, ?_⟩
  rw [CountedDown, BitVec.sub_zero]
  exact ⟨_, _, rfl⟩

/-- A clock in a slot with the counter not at zero counts it down (R136, R244). -/
theorem step_slot_countedDown {s : State} (hidle : s.pending = []) (hslot : s.clockCount % 3 = 0)
    (hdma : s.dmaActive = false) (hne : s.cycles ≠ 0#8) : ∃ t, step s = .next t ∧ CountedDown 1 1 s t := by
  refine ⟨_, (countDownTick s hne).2 hidle hslot hdma, ?_⟩
  rw [clockTail_eq]
  exact ⟨_, _, rfl⟩

theorem CountedDown.idle {k n : Nat} {s t : State} (h : CountedDown k n s t) (hidle : s.pending = []) :
    t.pending = [] ∧ t.clockCount = s.clockCount + k := by
  obtain ⟨_, _, rfl⟩ := h
  exact ⟨hidle, rfl⟩

/-- Three clocks from a slot are one count-down tick: the slot, and two clocks outside (R240, R241). -/
theorem run_slot_round {s : State} (hidle : s.pending = []) (hslot : s.clockCount % 3 = 0)
    (hdma : s.dmaActive = false) (hne : s.cycles ≠ 0#8) :
    ∃ t, CountedDown 3 1 s t ∧ ∀ k, Host.Core.run Sys2Proof.core (k + 3) s = Host.Core.run Sys2Proof.core k t := by
  obtain ⟨t₁, h₁, c₁⟩ := step_slot_countedDown hidle hslot hdma hne
  obtain ⟨hidle₁, hcount₁⟩ := c₁.idle hidle
  obtain ⟨t₂, h₂, c₂⟩ := step_outside_countedDown hidle₁ (by omega)
  obtain ⟨hidle₂, hcount₂⟩ := c₂.idle hidle₁
  obtain ⟨t₃, h₃, c₃⟩ := step_outside_countedDown hidle₂ (by omega)
  exact ⟨t₃, (c₁.trans c₂).trans c₃, fun k => by
    rw [run_succ_of_step h₁, run_succ_of_step h₂, run_succ_of_step h₃]⟩

/-- A counter at N reaches zero in 3N clocks from a slot, with no transfer active (R138, R240, R255). -/
theorem run_countDown {n : Nat} {s : State} (hidle : s.pending = []) (hslot : s.clockCount % 3 = 0)
    (hdma : s.dmaActive = false) (hn : s.cycles.toNat = n) :
    ∃ t, Host.Core.run Sys2Proof.core (3 * n) s = .next t ∧ CountedDown (3 * n) n s t := by
  induction n generalizing s with
  | zero =>
    refine ⟨s, rfl, s.picture, s.sound, ?_⟩
    rw [BitVec.sub_zero]
    rfl
  | succ n ih =>
    have hne : s.cycles ≠ 0#8 := by bv_omega
    obtain ⟨t, hround, hrun⟩ := run_slot_round hidle hslot hdma hne
    obtain ⟨hidle', hcount'⟩ := hround.idle hidle
    have hkept : t.dmaActive = s.dmaActive ∧ t.cycles = s.cycles - 1#8 := by
      obtain ⟨_, _, rfl⟩ := hround
      exact ⟨rfl, rfl⟩
    obtain ⟨u, hu, hrest⟩ := ih hidle' (by omega) (hkept.1.trans hdma) (by rw [hkept.2]; bv_omega)
    have hsum := hround.trans hrest
    rw [Nat.add_comm 3, Nat.add_comm 1] at hsum
    exact ⟨u, (hrun (3 * n)).trans hu, hsum⟩

/-- Settles O12: a counter at 8 reaches zero in 24 clocks, and the 25th is the next slot. -/
theorem firstFetchAtCount24 : Obligations.FirstFetchAtCount24 := by
  unfold Obligations.FirstFetchAtCount24
  intro s hidle hcount hdma hcycles
  obtain ⟨t, ht, picture, sound, rfl⟩ := run_countDown (n := 8) hidle (by rw [hcount]) hdma (by rw [hcycles]; rfl)
  refine ⟨_, ht, ?_, ?_, rfl, rfl, rfl, rfl, rfl, rfl, rfl, rfl, rfl, hdma, hidle⟩
  · dsimp only
    rw [hcount]
  · dsimp only
    rw [hcycles]
    rfl

end Sys2Proof.Machine
end

section
/-!
SUPPORT. The unimplemented opcodes (45_unimplemented_opcodes R230, R231) and the frame they share with the branches
(44_branches R220): what the two kinds of instruction keep (`exec_branch_keeps`, `exec_none_keeps`), and the proofs of
`Obligations.UnimplementedIsOneByteNoEffect`, `Obligations.BranchAndUnimplementedFrame` and
`Obligations.UnimplementedBytes`.
-/

namespace Sys2Proof.Machine

/-- Settles O20: the sentinel has no handler, so the instruction is the shared one-byte meaning. -/
theorem unimplementedIsOneByteNoEffect : Obligations.UnimplementedIsOneByteNoEffect := by
  unfold Obligations.UnimplementedIsOneByteNoEffect
  intro i s h
  have hnone : i.descriptor.handler = .none := by rw [h]; rfl
  rw [exec_none hnone, unimpInstr_eq]

/-- P, the registers, RAM, the collaborators and the DMA registers are as they were. -/
def KeepsData (s t : State) : Prop :=
  t.p = s.p ∧ (∀ q : Reg, getReg q t = getReg q s) ∧ KeepsDma s t ∧ t.ram = s.ram ∧ t.picture = s.picture ∧
    t.sound = s.sound

theorem exec_branch_keeps {i : Instr} {c : Cond} {s t : State} (h : i.descriptor.handler = .branch c)
    (hexec : exec i s = .next t) : KeepsData s t := by
  obtain ⟨d, -, hbranch⟩ := exec_branch h s
  rw [hbranch, branchInstr_eq] at hexec
  obtain rfl := Host.Outcome.next.inj hexec
  exact ⟨rfl, fun q => by cases q <;> rfl, ⟨rfl, rfl, rfl⟩, rfl, rfl, rfl⟩

theorem exec_none_keeps {i : Instr} {s t : State} (h : i.descriptor.handler = .none) (hexec : exec i s = .next t) :
    KeepsData s t := by
  rw [exec_none h, unimpInstr_eq] at hexec
  obtain rfl := Host.Outcome.next.inj hexec
  exact ⟨rfl, fun q => by cases q <;> rfl, ⟨rfl, rfl, rfl⟩, rfl, rfl, rfl⟩

/-- Settles O24: what the two kinds keep, and the frame of every instruction. -/
theorem branchAndUnimplementedFrame : Obligations.BranchAndUnimplementedFrame := by
  unfold Obligations.BranchAndUnimplementedFrame
  intro i s h
  obtain ⟨t, hexec, hframe⟩ := exec_frame i s
  obtain ⟨hp, hregs, hdma, hram, hpicture, hsound⟩ : KeepsData s t := by
    rcases h with ⟨c, hbranch⟩ | hnone
    · exact exec_branch_keeps hbranch hexec
    · exact exec_none_keeps hnone hexec
  exact ⟨t, hexec, hp, hregs, hframe.keepsControl, hdma, hram, hpicture, hsound, sameMemory_of_eq hram hframe.cart⟩

/-- Settles O21: the table, byte by byte. -/
theorem unimplementedBytes : Obligations.UnimplementedBytes := by
  unfold Obligations.UnimplementedBytes
  decide

end Sys2Proof.Machine
end

section
/-!
SUPPORT. The indirect mode (41_addressing_modes R160): where the pointer's two bytes lie (`wordOf_succ`), what the mode
gives at PC (`resolveAt_ind`), and the proof of `Obligations.IndirectPageWrap`.
-/

namespace Sys2Proof.Machine

/-- The next offset in the same page: the next address, except behind the page's last byte, where it is the page's first
(R160). -/
theorem wordOf_succ (hi lo : Byte) :
    wordOf hi (lo + 1#8) = if lo = 0xFF#8 then wordOf hi 0x00#8 else wordOf hi lo + 1#16 := by
  split_ifs with hlast
  · rw [hlast]
    rfl
  · have hlt : lo.toNat < 255 := by bv_omega
    apply BitVec.eq_of_toNat_eq
    rw [wordOf_toNat, BitVec.toNat_add, BitVec.toNat_add, wordOf_toNat]
    have hhi := hi.isLt
    simp only [BitVec.toNat_ofNat]
    omega

/-- IND: the word at PC is the pointer, and the target is read within the pointer's page (R160; D13). -/
theorem resolveAt_ind (s : State) : resolveAt .ind s =
    let pointer := readPointer (highByte (nextWord s).1) (lowByte (nextWord s).1) (nextWord s).2
    ⟨pointer.1, false, pointer.2⟩ := rfl

/-- Settles O30: the second read is at the next offset of the pointer's page. -/
theorem indirectPageWrap : Obligations.IndirectPageWrap := by
  unfold Obligations.IndirectPageWrap
  rintro s phi plo ptr high hptr hword rfl
  have hpc : (nextWord s).2.pc = s.pc + 2#16 := by rw [nextWord_eq, setPc_pc]
  rw [hptr, ← wordOf_succ, resolveAt_ind, hword, hptr, highByte_wordOf, lowByte_wordOf]
  refine ⟨rfl, rfl, rfl, ?_⟩
  rw [← hpc]
  exact readWord_pc _ _ _

end Sys2Proof.Machine
end

section
/-!
SUPPORT. The PRG window of the cartridge and the checks of `load` (47_cartridge_mapper R272-R278, R286, R295, R296): the
window offset of an address (`windowOffset_toNat`), the mapper's answer in the window (`cartridgeCpuRead_high`), the
header's magic and mapper id as numbers (`magicOk_iff`, `imageMapperId_toNat`), and the proofs of `Obligations.RomRead`,
`Obligations.HalfSizePrgMirrored` and `Obligations.LoadChecks`.
-/

namespace Sys2Proof.Machine

/-! ## The PRG window (R286, R295) -/

theorem windowOffset_toNat {a : Word} (h : 0x8000#16 ≤ a) : (a &&& 0x7FFF#16).toNat = a.toNat - 0x8000 := by
  have hand : (a &&& 0x7FFF#16).toNat = a.toNat % 2 ^ 15 := by
    rw [BitVec.toNat_and]
    exact Nat.and_two_pow_sub_one_eq_mod a.toNat 15
  rw [hand]
  bv_omega

/-- In the window the mapper answers with PRG modulo its length, and declines only an empty PRG (R286, R295). -/
theorem cartridgeCpuRead_high (c : Cartridge) {a : Word} (h : 0x8000#16 ≤ a) :
    cartridgeCpuRead c a =
      if c.prgCount = 0#8 then none
      else some (cellsRead .rom ((a.toNat - 0x8000) % (c.prgCount.toNat * 16384)) c.prg) := by
  have hempty : prgLength c = 0 ↔ c.prgCount = 0#8 := by
    unfold prgLength
    bv_omega
  unfold cartridgeCpuRead
  cases c.mapper
  simp only [h, hempty, ne_eq, true_and, ite_not, windowOffset_toNat h]
  rfl

/-- Settles O36: no cartridge and an empty PRG leave the address without an owner. -/
theorem romRead : Obligations.RomRead := by
  unfold Obligations.RomRead
  intro s a ha
  have hunowned : a = 0x4014#16 ∨ 0x4016#16 ≤ a := by bv_omega
  cases hc : s.cart with
  | none => exact memRead_unowned s (by rw [cartCpuRead, hc]; rfl) hunowned
  | some c =>
    have hread : cartCpuRead a s = cartridgeCpuRead c a := by rw [cartCpuRead, hc]; rfl
    rw [cartridgeCpuRead_high c ha] at hread
    dsimp only
    split_ifs with hempty
    · exact memRead_unowned s (hread.trans (if_pos hempty)) hunowned
    · exact memRead_claimed s (hread.trans (if_neg hempty))

/-- Bit 14 of an address has no part in its offset in a bank (R286). -/
theorem bankOffset_mirror (a : Word) : (a ^^^ 0x4000#16).toNat % 16384 = a.toNat % 16384 := by
  have hlow : (a ^^^ 0x4000#16).setWidth 14 = a.setWidth 14 := by
    rw [BitVec.setWidth_xor]
    exact BitVec.xor_zero
  have := congrArg BitVec.toNat hlow
  rwa [BitVec.toNat_setWidth, BitVec.toNat_setWidth] at this

theorem window_mirror {a : Word} (h : 0x8000#16 ≤ a) : 0x8000#16 ≤ a ^^^ 0x4000#16 := by
  have hmsb : ∀ b : Word, 0x8000#16 ≤ b ↔ b.msb = true := by
    intro b
    rw [BitVec.msb_eq_decide, decide_eq_true_iff]
    rfl
  rw [hmsb] at h ⊢
  rw [BitVec.msb_xor, h]
  rfl

/-- Settles O37: with one bank the two offsets are equal modulo the length. -/
theorem halfSizePrgMirrored : Obligations.HalfSizePrgMirrored := by
  unfold Obligations.HalfSizePrgMirrored
  intro c a hone ha
  have hmirror := window_mirror ha
  have hoffset : (a.toNat - 0x8000) % 16384 = ((a ^^^ 0x4000#16).toNat - 0x8000) % 16384 := by
    have := bankOffset_mirror a
    bv_omega
  rw [cartridgeCpuRead_high c ha, cartridgeCpuRead_high c hmirror, hone]
  simp only [BitVec.toNat_ofNat, Nat.reducePow, Nat.reduceMod, Nat.one_mul, hoffset]

/-! ## The checks of `load` (R272, R276, R278, R296) -/

theorem magicOk_iff (im : RomImage) : magicOk im = true ↔
    (imageByte im 0, imageByte im 1, imageByte im 2, imageByte im 3) = (0x4E#8, 0x45#8, 0x53#8, 0x1A#8) := by
  simp [magicOk, and_assoc]

/-- The mapper id's two nibbles, `flags6` the low one and `flags7` the high one (R275, R276). -/
theorem imageMapperId_toNat (im : RomImage) : (imageMapperId im).toNat =
    (imageByte im 6).toNat / 16 + 16 * ((imageByte im 7).toNat / 16) := by
  have hhigh : ∀ b : Byte, (b &&& 0xF0#8).toNat = 2 ^ 4 * (b.toNat / 16) := by decide
  have hlow : (imageByte im 6).toNat / 2 ^ 4 < 2 ^ 4 := by
    have := (imageByte im 6).isLt
    omega
  rw [imageMapperId, BitVec.toNat_or, hhigh, BitVec.toNat_ushiftRight, Nat.shiftRight_eq_div_pow,
    ← Nat.two_pow_add_eq_or_of_lt hlow, Nat.add_comm]
  rfl

/-- Settles O43: the four checks, the magic and the mapper id in the words of the statement. -/
theorem loadChecks : Obligations.LoadChecks := by
  unfold Obligations.LoadChecks
  intro im
  have hmagic : (!magicOk im) = true ↔
      (imageByte im 0, imageByte im 1, imageByte im 2, imageByte im 3) ≠ (0x4E#8, 0x45#8, 0x53#8, 0x1A#8) := by
    rw [ne_eq, ← magicOk_iff, Bool.not_eq_true', Bool.not_eq_true]
  have hmapper : imageMapperId im ≠ 0#8 ↔
      (imageByte im 6).toNat / 16 + 16 * ((imageByte im 7).toNat / 16) ≠ 0 := by
    rw [← imageMapperId_toNat, ne_eq, ne_eq, BitVec.toNat_eq]
    rfl
  simp only [loadImage, hmagic, hmapper, imageNeed, ← imageMapperId_toNat, BitVec.ofNat_toNat, BitVec.setWidth_eq]

end Sys2Proof.Machine
end

section
/-!
SUPPORT. A whole DMA transfer (46_system_bus R245-R251, R258): one pair of DMA steps (`dmaPair_eq`), the transfer's
registers after each pair (`transfer_afterPairs`) and the bytes it has handed over from a RAM page
(`transfer_oamBytes`), and the proofs of `Obligations.TransferTakes512Steps` and `Obligations.TransferCopiesRamPage`.
-/

namespace Sys2Proof.Machine

/-! ## One pair of DMA steps (R245-R249) -/

/-- A read half and the write half behind it: the byte at the source to the OAM port, and the cursor one on. -/
theorem dmaPair_eq {s : State} (hphase : s.dmaPhase = .read) :
    dmaExecute (dmaExecute s) = {
      pictureCall (.oamDataWrite (memRead (dmaSource s) s).1) (memRead (dmaSource s) s).2 with
      dmaStaging := (memRead (dmaSource s) s).1,
      dmaCursor := s.dmaCursor + 1#8,
      dmaActive := if s.dmaCursor + 1#8 = 0x00#8 then false else s.dmaActive,
      dmaPhase := .read } := by
  have hread : dmaExecute s = dmaReadStep s := by rw [dmaExecute, hphase]
  have hwrite : dmaExecute (dmaReadStep s) = dmaWriteStep (dmaReadStep s) := rfl
  rw [hread, hwrite]
  simp [dmaWriteStep, dmaReadStep, pictureCall]

/-- The state after `k` pairs. -/
def afterPairs (k : Nat) (s : State) : State := Nat.iterate dmaExecute (2 * k) s

theorem afterPairs_succ (k : Nat) (s : State) :
    afterPairs (k + 1) s = dmaExecute (dmaExecute (afterPairs k s)) := by
  unfold afterPairs
  rw [Nat.mul_succ, Function.iterate_succ_apply', Function.iterate_succ_apply']

/-! ## The transfer's registers -/

/-- The registers of a transfer that started at cursor 0x00, after `k` pairs (R248, R249, R251). -/
structure TransferAt (k : Nat) (s t : State) : Prop where
  cursor : t.dmaCursor = BitVec.ofNat 8 k
  active : t.dmaActive = decide (k < 256)
  phase : t.dmaPhase = .read
  page : t.dmaPage = s.dmaPage

theorem TransferAt.pair {k : Nat} {s t : State} (h : TransferAt k s t) (hk : k < 256) :
    TransferAt (k + 1) s (dmaExecute (dmaExecute t)) := by
  have hcursor : t.dmaCursor + 1#8 = BitVec.ofNat 8 (k + 1) := by rw [h.cursor, BitVec.ofNat_add]
  have hwrap : BitVec.ofNat 8 (k + 1) = 0x00#8 ↔ ¬ k + 1 < 256 := by bv_omega
  have hactive : t.dmaActive = true := by rw [h.active, decide_eq_true hk]
  rw [dmaPair_eq h.phase, hcursor, hactive]
  refine ⟨rfl, ?_, rfl, ?_⟩
  · dsimp only
    by_cases hlast : k + 1 < 256 <;> simp [hwrap, hlast]
  · dsimp only
    rw [pictureCall_dmaPage, memRead_snd_dmaPage, h.page]

section
variable {s : State} (hactive : s.dmaActive = true) (hcursor : s.dmaCursor = 0x00#8) (hphase : s.dmaPhase = .read)
include hactive hcursor hphase

theorem transfer_afterPairs {k : Nat} (hk : k ≤ 256) : TransferAt k s (afterPairs k s) := by
  induction k with
  | zero => exact ⟨hcursor, hactive, hphase, rfl⟩
  | succ k ih =>
    rw [afterPairs_succ]
    exact (ih (Nat.le_of_succ_le hk)).pair hk

/-- A step count below 512 is a number of pairs below 256, or one with a read half behind it, and neither ends the
transfer. -/
theorem transfer_active {k : Nat} (hk : k < 512) : (Nat.iterate dmaExecute k s).dmaActive = true := by
  have hpairs : k / 2 < 256 := by omega
  have hat := transfer_afterPairs hactive hcursor hphase hpairs.le
  have hrunning : (afterPairs (k / 2) s).dmaActive = true := by rw [hat.active, decide_eq_true hpairs]
  rcases Nat.mod_two_eq_zero_or_one k with heven | hodd
  · have hsteps : k = 2 * (k / 2) := by omega
    rw [hsteps]
    exact hrunning
  · have hsteps : k = 2 * (k / 2) + 1 := by omega
    rw [hsteps, Function.iterate_succ_apply']
    change (dmaExecute (afterPairs (k / 2) s)).dmaActive = true
    rw [dmaExecute, hat.phase]
    dsimp only
    rw [dmaReadStep_eq]
    exact hrunning

end

/-- Settles O39: the transfer is active before each of the 512 steps, and the 256th pair ends it. -/
theorem transferTakes512Steps : Obligations.TransferTakes512Steps := by
  unfold Obligations.TransferTakes512Steps
  intro s hactive hcursor hphase
  obtain ⟨hend, hdone, hread, hpage⟩ := transfer_afterPairs hactive hcursor hphase (Nat.le_refl 256)
  exact ⟨fun k => transfer_active hactive hcursor hphase, hdone, hend, hread, hpage⟩

/-! ## The bytes handed over -/

theorem oamBytes_oamDataWrite (u : PictureUnit) (n : Nat) (v : Byte) :
    oamBytes ⟨u.ticks, (n, .oamDataWrite v) :: u.calls⟩ = oamBytes u ++ [v] := by
  simp [oamBytes]

/-- A DMA step changes neither RAM nor the cartridge (R258). -/
theorem iterate_dmaExecute_memory (k : Nat) (s : State) :
    (Nat.iterate dmaExecute k s).ram = s.ram ∧ (Nat.iterate dmaExecute k s).cart = s.cart := by
  induction k with
  | zero => exact ⟨rfl, rfl⟩
  | succ k ih =>
    rw [Function.iterate_succ_apply', (dmaExecute_frame _).2.1]
    exact ih

theorem wordOf_ramPage_le {page : Byte} (h : page < 0x20#8) (offset : Byte) : wordOf page offset ≤ 0x1FFF#16 := by
  have hoffset := offset.isLt
  have hword := wordOf_toNat page offset
  bv_omega

/-- A pair from a RAM page hands one byte of the page over, and its read has no side effect (R69, R246, R247). -/
theorem oamBytes_dmaPair {s : State} (hphase : s.dmaPhase = .read) (hpage : s.dmaPage < 0x20#8) :
    oamBytes (dmaExecute (dmaExecute s)).picture =
      oamBytes s.picture ++ [cellsRead .ram (ramCell (wordOf s.dmaPage s.dmaCursor)) s.ram] := by
  rw [dmaPair_eq hphase, dmaSource, memRead_ram s (wordOf_ramPage_le hpage s.dmaCursor)]
  exact oamBytes_oamDataWrite s.picture _ _

/-- After `k` pairs from a RAM page its first `k` bytes are handed over, in order (R246, R247). -/
theorem transfer_oamBytes {s : State} (hactive : s.dmaActive = true) (hcursor : s.dmaCursor = 0x00#8)
    (hphase : s.dmaPhase = .read) (hpage : s.dmaPage < 0x20#8) {k : Nat} (hk : k ≤ 256) :
    oamBytes (afterPairs k s).picture =
      oamBytes s.picture ++ (List.range k).map fun j => (memRead (wordOf s.dmaPage (BitVec.ofNat 8 j)) s).1 := by
  induction k with
  | zero => exact (List.append_nil _).symm
  | succ k ih =>
    have hat := transfer_afterPairs hactive hcursor hphase (Nat.le_of_succ_le hk)
    have hram : (afterPairs k s).ram = s.ram := (iterate_dmaExecute_memory _ s).1
    rw [afterPairs_succ, oamBytes_dmaPair hat.phase (hat.page ▸ hpage), ih (Nat.le_of_succ_le hk), hat.page, hat.cursor,
      hram, List.range_succ, List.map_append, List.append_assoc, List.map_singleton,
      memRead_ram s (wordOf_ramPage_le hpage _)]

/-- Settles O40: the 256 pairs of the transfer, none of which changes memory. -/
theorem transferCopiesRamPage : Obligations.TransferCopiesRamPage := by
  unfold Obligations.TransferCopiesRamPage
  intro s hactive hcursor hphase hpage
  have hbytes := transfer_oamBytes hactive hcursor hphase hpage (Nat.le_refl 256)
  exact ⟨hbytes, iterate_dmaExecute_memory 512 s⟩

end Sys2Proof.Machine
end
